-- ==== Sys2Proof/Word.lean ====
section
/-! DEFINITION. The word types of the LA316: bytes, link addresses and frames as the manual counts them. -/

namespace Sys2Proof

/-- One byte of a frame or of a Control Link message. -/
abbrev Byte := BitVec 8

/-- A six-byte link address, read most significant byte first (00_scope.md, Byte order). -/
abbrev LinkAddr := BitVec 48

/-- A frame: its bytes, numbered from 0 at the first byte of the destination link address (00_scope.md, Frames). -/
abbrev Frame := List Byte

end Sys2Proof
end

