-- ==== Sys2Proof/Config.lean ====
section
/-! DEFINITION. What is fixed for the part: its capacities (00_scope.md, Capacities and limits) and the free values
the spec leaves open. -/

namespace Sys2Proof.Config

/-- The value at which statistics, match counts, runs completed and elapsed time stop (00_scope.md, Counters; R2). -/
def max32 : Nat := 4294967295

/-- The value at which lanes and the window count stop (R28, R164). -/
def max16 : Nat := 65535

/-- Transmit Queue entries (R85). -/
def queueLimit : Nat := 8

/-- Transmit Queue entries of class ORDINARY (R85). -/
def ordinaryLimit : Nat := 6

/-- Template Pool bytes (R65). -/
def poolBytes : Nat := 8192

/-- Held Frame Queue records (R178). -/
def heldLimit : Nat := 4

/-- Held Frame Queue frame bytes (R178). -/
def heldByteLimit : Nat := 6144

/-- Largest body of a Control Link message (R189). -/
def bodyLimit : Nat := 1600

/-- The load window, in ms (R151). -/
def windowMs : Nat := 100

/-- The re-signal gap, in ms (R173). -/
def gapMs : Nat := 100

/-- Re-signals after which WAKE stays asserted (R173). -/
def resignalLimit : Nat := 3

/-- Largest offset of a rule, pattern, patch or capture field (R32, R68, R103). -/
def maxOffset : Nat := 1513

/-- The longest delay or interval of a duty, in s (R103). -/
def maxDelay : Nat := 604800

/-- The `n`-th free byte: the value or mask byte of a compare item that a request carries with length 0 and that R32
or R104 clamps to length 1, so that no byte for it stands in the body (log 7). DESIGN CHOICE, safe: nothing
constrains it. -/
opaque freeByte : Nat → Byte

end Sys2Proof.Config
end

