-- ==== Sys2Proof/Syntax.lean ====
section
/-! DEFINITION. The commands of the LA316: one constructor per row of spec/opcode_table.json. -/

namespace Sys2Proof

/-- The result a transmit-result record carries (R99). -/
inductive TxResult where
  | sent
  | refused
  deriving DecidableEq, Repr

/-- The state a link-state record carries (R100). -/
inductive LinkRecord where
  | up
  | down
  deriving DecidableEq, Repr

/-- A request message after its kind byte (R189, R200): the tag, the body length its header states, and the body bytes
received before chip select rose. -/
structure Request where
  tag : Byte
  stated : BitVec 16
  body : List Byte
  deriving DecidableEq, Repr

/-- The commands. Events at the two ports, on the board's lines and at the part's own timers (95_what_each_step_holds.md). -/
inductive Instr where
  /-- POWER_ON (R19). -/
  | powerOn
  /-- RESET_PIN (R19). -/
  | resetPin
  /-- OTHER_TRANSACTION (R188): all bytes shifted in, the code first. -/
  | otherTransaction (bytes : List Byte)
  /-- CUT_SHORT_MESSAGE (R189): the bytes shifted in after the WRITE code. -/
  | cutShortMessage (bytes : List Byte)
  /-- UNKNOWN_KIND_REQUEST (R196). -/
  | unknownKindRequest (kind : Byte) (m : Request)
  /-- READ (R193): the number of bytes clocked out after the code. -/
  | read (clocked : Nat)
  /-- SET_STATION (R4). -/
  | setStation (m : Request)
  /-- PUT_ADDRESS (R47). -/
  | putAddress (m : Request)
  /-- PUT_GROUP (R26). -/
  | putGroup (m : Request)
  /-- PUT_RULE (R32). -/
  | putRule (m : Request)
  /-- PUT_TEMPLATE (R66). -/
  | putTemplate (m : Request)
  /-- PUT_PATCH_LIST (R69). -/
  | putPatchList (m : Request)
  /-- PUT_DUTY (R104). -/
  | putDuty (m : Request)
  /-- SET_LANES (R163). -/
  | setLanes (m : Request)
  /-- SET_CURVE (R150). -/
  | setCurve (m : Request)
  /-- SET_SIGNATURE (R136). -/
  | setSignature (m : Request)
  /-- CLEAR_PROFILE (R17). -/
  | clearProfile (m : Request)
  /-- ASSUME (R5, R7). -/
  | assume (m : Request)
  /-- RECLAIM (R10). -/
  | reclaim (m : Request)
  /-- READ_REPORT (R183). -/
  | readReport (m : Request)
  /-- FETCH_HELD (R181). -/
  | fetchHeld (m : Request)
  /-- REARM (R15). -/
  | rearm (m : Request)
  /-- DETACH (R16). -/
  | detach (m : Request)
  /-- QUERY_STATUS (R198). -/
  | queryStatus (m : Request)
  /-- RESET_PART (R199). -/
  | resetPart (m : Request)
  /-- RECEIVED_FRAME (R22, R97): the frame bytes as received, tag included. -/
  | receivedFrame (frame : Frame)
  /-- TRANSMIT_RESULT (R91). -/
  | transmitResult (r : TxResult)
  /-- BLOCKED_DUTY_ADMIT (R90). -/
  | blockedDutyAdmit
  /-- FRAME_TO_SEND (R86). -/
  | frameToSend
  /-- HANDBACK_COMPLETE (R13). -/
  | handbackComplete
  /-- LINK_STATE (R100). -/
  | linkState (l : LinkRecord)
  /-- BAD_RECORD (R201): the record's bytes, the type first. -/
  | badRecord (bytes : List Byte)
  /-- DEFERRED_RESUME (R128). -/
  | deferredResume
  /-- TENTATIVE_EXPIRY (R50): the entry's index. -/
  | tentativeExpiry (i : Fin 16)
  /-- CONTEST_EXPIRY (R52): the entry's index. -/
  | contestExpiry (i : Fin 16)
  /-- DUTY_TIMER_EXPIRY (R107): the duty's id. -/
  | dutyTimerExpiry (d : Fin 12)
  /-- REPLY_WINDOW_EXPIRY (R114): the duty's id. -/
  | replyWindowExpiry (d : Fin 12)
  /-- BACKOFF_EXPIRY (R117): the duty's id. -/
  | backoffExpiry (d : Fin 12)
  /-- LOAD_WINDOW_EXPIRY (R151). -/
  | loadWindowExpiry
  /-- DECAY_PERIOD_EXPIRY (R166). -/
  | decayPeriodExpiry
  /-- SETTLE_HOLD_EXPIRY (R168). -/
  | settleHoldExpiry
  /-- PATIENCE_EXPIRY (R173). -/
  | patienceExpiry
  /-- GAP_EXPIRY (R173). -/
  | gapExpiry
  /-- ELAPSED_TIME_ADVANCE (R2): one millisecond. -/
  | elapsedTimeAdvance
  deriving DecidableEq, Repr

end Sys2Proof
end

