-- ==== Sys2Proof/WellFormed.lean ====
section
/-! DEFINITION. Which terms of `Instr` are commands the two ports can bring: the checks that the types do not make. -/

namespace Sys2Proof

/-- A request message is complete when its stated length is above 1,600 bytes or its body is not shorter than stated (R189). -/
def Request.complete (m : Request) : Bool :=
  decide (Config.bodyLimit < m.stated.toNat) || decide (m.stated.toNat ≤ m.body.length)

/-- A kind byte of the request catalogue (11.4). -/
def inCatalogue (kind : Byte) : Bool :=
  decide (1 ≤ kind.toNat) && decide (kind.toNat ≤ 0x13)

/-- The bytes after a WRITE code that R189 discards: an incomplete header, or a body shorter than its stated length of
at most 1,600. -/
def cutShort (bytes : List Byte) : Bool :=
  match bytes with
  | _ :: _ :: hi :: lo :: body =>
    decide (hi.toNat * 256 + lo.toNat ≤ Config.bodyLimit) && decide (body.length < hi.toNat * 256 + lo.toNat)
  | _ => true

/-- The bytes of a transaction that is neither WRITE nor READ, or that ends before its code byte (R188). -/
def otherCode (bytes : List Byte) : Bool :=
  match bytes with
  | [] => true
  | c :: _ => decide (c ≠ 1) && decide (c ≠ 2)

/-- A record the port ignores (R201): a type the controller does not send, or a value that is none of its codes. -/
def ignoredRecord (bytes : List Byte) : Bool :=
  match bytes with
  | [] => false
  | [t, c] =>
    if t = 3 then decide (c ≠ 0) && decide (c ≠ 1)
    else if t = 4 then decide (c ≠ 1) && decide (c ≠ 2)
    else decide (t ≠ 1)
  | t :: _ => decide (t ≠ 1) && decide (t ≠ 3) && decide (t ≠ 4)

/-- A command that an event at the part can be. -/
def Instr.wellFormed : Instr → Bool
  | .otherTransaction bytes => otherCode bytes
  | .cutShortMessage bytes => cutShort bytes
  | .unknownKindRequest kind m => !inCatalogue kind && m.complete
  | .setStation m | .putAddress m | .putGroup m | .putRule m | .putTemplate m | .putPatchList m | .putDuty m
  | .setLanes m | .setCurve m | .setSignature m | .clearProfile m | .assume m | .reclaim m | .readReport m
  | .fetchHeld m | .rearm m | .detach m | .queryStatus m | .resetPart m => m.complete
  | .receivedFrame frame => decide (frame.length < 65536)
  | .badRecord bytes => ignoredRecord bytes
  | .powerOn | .resetPin | .read _ | .transmitResult _ | .blockedDutyAdmit | .frameToSend | .handbackComplete
  | .linkState _ | .deferredResume | .tentativeExpiry _ | .contestExpiry _ | .dutyTimerExpiry _
  | .replyWindowExpiry _ | .backoffExpiry _ | .loadWindowExpiry | .decayPeriodExpiry | .settleHoldExpiry
  | .patienceExpiry | .gapExpiry | .elapsedTimeAdvance => true

end Sys2Proof
end

