-- ==== Sys2Proof/Decode.lean ====
section
/-! DEFINITION. From bytes to commands: the table's words (it gives no row any), the Control Link's transactions (R188 to
R190, 11.4) and the Frame Port's records (R200, R201); and back from commands to their bytes. -/

namespace Sys2Proof

/-- The command a word of the opcode table spells. spec/opcode_table.json gives no row any bits, so no word spells one. -/
def decodeTableWord (_nbits _w : Nat) : Option Instr := none

/-- The command that a complete request message of kind `kind` is (11.4). -/
def requestOfKind (kind : Byte) (m : Request) : Instr :=
  match kind.toNat with
  | 0x01 => .setStation m
  | 0x02 => .putAddress m
  | 0x03 => .putGroup m
  | 0x04 => .putRule m
  | 0x05 => .putTemplate m
  | 0x06 => .putPatchList m
  | 0x07 => .putDuty m
  | 0x08 => .setLanes m
  | 0x09 => .setCurve m
  | 0x0A => .setSignature m
  | 0x0B => .clearProfile m
  | 0x0C => .assume m
  | 0x0D => .reclaim m
  | 0x0E => .readReport m
  | 0x0F => .fetchHeld m
  | 0x10 => .rearm m
  | 0x11 => .detach m
  | 0x12 => .queryStatus m
  | 0x13 => .resetPart m
  | _ => .unknownKindRequest kind m

/-- The command a WRITE transaction is, from the bytes shifted in after its code (R189). -/
def writeTransaction (bytes : List Byte) : Instr :=
  if cutShort bytes then .cutShortMessage bytes
  else
    match bytes with
    | kind :: tag :: hi :: lo :: body => requestOfKind kind { tag := tag, stated := hi ++ lo, body := body }
    | _ => .cutShortMessage bytes

/-- The command a Control Link transaction is, from all bytes the host shifts in between the fall and the rise of chip
select (R188). A READ shifts out one byte for each byte shifted in after its code. -/
def linkTransaction (bytes : List Byte) : Instr :=
  match bytes with
  | [] => .otherTransaction []
  | code :: rest =>
    if code = 1 then writeTransaction rest
    else if code = 2 then .read rest.length
    else .otherTransaction bytes

/-- The command a whole Frame Port record is, type byte first (R200, R201). A received-frame record whose bytes do not
number its length, and a result or state record that is not two bytes long, is no whole record: `none` (log 17). -/
def portRecord (bytes : List Byte) : Option Instr :=
  match bytes with
  | [] => none
  | t :: rest =>
    if t = 1 then
      match rest with
      | hi :: lo :: frame => if hi.toNat * 256 + lo.toNat = frame.length then some (.receivedFrame frame) else none
      | _ => none
    else if t = 3 then
      match rest with
      | [c] => if c = 0 then some (.transmitResult .sent) else if c = 1 then some (.transmitResult .refused) else some (.badRecord bytes)
      | _ => none
    else if t = 4 then
      match rest with
      | [c] => if c = 1 then some (.linkState .up) else if c = 2 then some (.linkState .down) else some (.badRecord bytes)
      | _ => none
    else some (.badRecord bytes)

/-- The bytes of a WRITE transaction that carries a request of kind `kind` (R189, R200). -/
def Request.encode (kind : Byte) (m : Request) : List Byte :=
  1 :: kind :: m.tag :: m.stated.extractLsb' 8 8 :: m.stated.extractLsb' 0 8 :: m.body

/-- The Control Link transaction that brings a command, for the commands of the Control Link (11.1, 11.4). -/
def Instr.encodeLink : Instr → Option (List Byte)
  | .otherTransaction bytes => some bytes
  | .cutShortMessage bytes => some (1 :: bytes)
  | .unknownKindRequest kind m => some (m.encode kind)
  | .read clocked => some (2 :: List.replicate clocked 0)
  | .setStation m => some (m.encode 0x01)
  | .putAddress m => some (m.encode 0x02)
  | .putGroup m => some (m.encode 0x03)
  | .putRule m => some (m.encode 0x04)
  | .putTemplate m => some (m.encode 0x05)
  | .putPatchList m => some (m.encode 0x06)
  | .putDuty m => some (m.encode 0x07)
  | .setLanes m => some (m.encode 0x08)
  | .setCurve m => some (m.encode 0x09)
  | .setSignature m => some (m.encode 0x0A)
  | .clearProfile m => some (m.encode 0x0B)
  | .assume m => some (m.encode 0x0C)
  | .reclaim m => some (m.encode 0x0D)
  | .readReport m => some (m.encode 0x0E)
  | .fetchHeld m => some (m.encode 0x0F)
  | .rearm m => some (m.encode 0x10)
  | .detach m => some (m.encode 0x11)
  | .queryStatus m => some (m.encode 0x12)
  | .resetPart m => some (m.encode 0x13)
  | .powerOn | .resetPin | .receivedFrame _ | .transmitResult _ | .blockedDutyAdmit | .frameToSend | .handbackComplete
  | .linkState _ | .badRecord _ | .deferredResume | .tentativeExpiry _ | .contestExpiry _ | .dutyTimerExpiry _
  | .replyWindowExpiry _ | .backoffExpiry _ | .loadWindowExpiry | .decayPeriodExpiry | .settleHoldExpiry
  | .patienceExpiry | .gapExpiry | .elapsedTimeAdvance => none

/-- The Frame Port record that brings a command, for the records the network controller sends (R200). -/
def Instr.encodePort : Instr → Option (List Byte)
  | .receivedFrame frame => some (1 :: BitVec.ofNat 8 (frame.length / 256) :: BitVec.ofNat 8 frame.length :: frame)
  | .transmitResult .sent => some [3, 0]
  | .transmitResult .refused => some [3, 1]
  | .linkState .up => some [4, 1]
  | .linkState .down => some [4, 2]
  | .badRecord bytes => some bytes
  | .powerOn | .resetPin | .otherTransaction _ | .cutShortMessage _ | .unknownKindRequest _ _ | .read _
  | .setStation _ | .putAddress _ | .putGroup _ | .putRule _ | .putTemplate _ | .putPatchList _ | .putDuty _
  | .setLanes _ | .setCurve _ | .setSignature _ | .clearProfile _ | .assume _ | .reclaim _ | .readReport _
  | .fetchHeld _ | .rearm _ | .detach _ | .queryStatus _ | .resetPart _ | .blockedDutyAdmit | .frameToSend
  | .handbackComplete | .deferredResume | .tentativeExpiry _ | .contestExpiry _ | .dutyTimerExpiry _
  | .replyWindowExpiry _ | .backoffExpiry _ | .loadWindowExpiry | .decayPeriodExpiry | .settleHoldExpiry
  | .patienceExpiry | .gapExpiry | .elapsedTimeAdvance => none

end Sys2Proof
end

