-- ==== Sys2Proof/Machine/Bytes.lean ====
section
/-! DEFINITION. Byte order and places of bytes: numbers read and written most significant byte first (00_scope.md, Byte
order), pieces of byte lists, and writing over a byte list without changing its length. -/

namespace Sys2Proof.Machine

/-- A number from its bytes, most significant first. -/
def natOfBytes (bs : List Byte) : Nat :=
  bs.foldl (fun acc b => acc * 256 + b.toNat) 0

/-- The low `w` bytes of a number, most significant first. -/
def bytesOfNat : Nat → Nat → List Byte
  | 0, _ => []
  | w + 1, n => BitVec.ofNat 8 (n / 256 ^ w) :: bytesOfNat w n

/-- `n` bytes from offset `off`, fewer where the list ends before. -/
def slice (bs : List Byte) (off n : Nat) : List Byte :=
  (bs.drop off).take n

/-- The number carried by `w` bytes at `off`. -/
def readNat (bs : List Byte) (off w : Nat) : Nat :=
  natOfBytes (slice bs off w)

/-- The number carried by `w` bytes at `off`, absent where the field lies wholly or partly past the end (R200). -/
def field? (bs : List Byte) (off w : Nat) : Option Nat :=
  if off + w ≤ bs.length then some (readNat bs off w) else none

/-- A flag or presence byte: clear when 0, set for any other value (R200). -/
def flagAt (bs : List Byte) (off : Nat) : Bool :=
  decide (readNat bs off 1 ≠ 0)

/-- The link address at `off`. -/
def linkAddrAt (bs : List Byte) (off : Nat) : LinkAddr :=
  BitVec.ofNat 48 (readNat bs off 6)

/-- `ws` written over the bytes from offset `off` on; what would lie past the end is not written (R71: a patch never
changes the frame length). -/
def overlay : List Byte → Nat → List Byte → List Byte
  | [], _, _ => []
  | b :: bs, 0, [] => b :: bs
  | _ :: bs, 0, w :: ws => w :: overlay bs 0 ws
  | b :: bs, off + 1, ws => b :: overlay bs off ws

/-- The low `w` bytes of a bit vector's value, most significant first. -/
def bytesOfBits {n : Nat} (w : Nat) (v : BitVec n) : List Byte :=
  bytesOfNat w v.toNat

end Sys2Proof.Machine
end

