-- ==== Sys2Proof/Machine/State.lean ====
section
/-! DEFINITION. The state of the LA316 as plain data, the reasons a step can stop, and the state after reset. -/

namespace Sys2Proof.Machine

/-! ### Named values -/

/-- The proxy state (R1). -/
inductive ProxyState where
  | idle | proxy | waking | handback | report
  deriving DecidableEq, Repr

/-- The network state (R137). -/
inductive NetState where
  | attached | linkDown | checking | foreign
  deriving DecidableEq, Repr

/-- The Frame Port's link state (R96). -/
inductive LinkState where
  | unknown | up | down
  deriving DecidableEq, Repr

/-- The port owner (R18). -/
inductive Owner where
  | host | part
  deriving DecidableEq, Repr

/-- A timer: stopped, or running with so many ms left (R3: a stopped timer keeps no remaining time; log 2). -/
abbrev Timer := Option Nat

/-! ### Station record and Address Table -/

/-- The station record (R4). -/
structure Station where
  ownAddr : LinkAddr
  vlan : Option (BitVec 12)
  settleHold : Nat
  contestWindow : Nat
  conflictLane : Fin 8
  conflictWeight : Nat
  wakePatience : Nat
  decayPeriod : Nat
  totalThreshold : Nat
  deriving DecidableEq, Repr

/-- The defaults of the station record (R20). -/
def Station.default : Station where
  ownAddr := 0
  vlan := none
  settleHold := 0
  contestWindow := 10
  conflictLane := 3
  conflictWeight := 65535
  wakePatience := 30
  decayPeriod := 1
  totalThreshold := 0

/-- The kind of an address reference or of an in-use entry (R35, R46). -/
inductive AddrKind where
  | short | long
  deriving DecidableEq, Repr

/-- A network address with its kind: 4 bytes for SHORT, 16 for LONG (R46). -/
inductive NetAddr where
  | short (v : BitVec 32)
  | long (v : BitVec 128)
  deriving DecidableEq, Repr

/-- The loaded state of an entry (R46). -/
inductive LoadedState where
  | tentative | defended
  deriving DecidableEq, Repr

/-- The current state of an entry (R46). -/
inductive EntryState where
  | tentative | defended | contested | lost
  deriving DecidableEq, Repr

/-- The answer mode of an entry (R46). -/
inductive AnswerMode where
  | answer | observe
  deriving DecidableEq, Repr

/-- An in-use Address Table entry (R46) with its two timers (R50, R52). -/
structure AddrEntry where
  value : NetAddr
  loaded : LoadedState
  mode : AnswerMode
  tentativeTime : Nat
  state : EntryState
  conflicts : Nat
  lastClaimant : Option LinkAddr
  tentativeTimer : Timer
  contestTimer : Timer
  deriving DecidableEq, Repr

/-! ### Group List and Rule Table -/

/-- A Group List entry (R26). -/
structure GroupEntry where
  inUse : Bool
  addr : LinkAddr
  matchLen : Nat
  deriving DecidableEq, Repr

/-- A Group List entry after reset: not in use; its other fields are the model's (log 9). -/
def GroupEntry.free : GroupEntry := { inUse := false, addr := 0, matchLen := 1 }

/-- A compare item (R32, R103): an offset and its bytes, each a value byte with its mask byte; the length is their number. -/
structure CompareItem where
  offset : Nat
  bytes : List (Byte × Byte)
  deriving DecidableEq, Repr

/-- An address reference (R32, R35). -/
structure AddrRef where
  offset : Nat
  kind : AddrKind
  deriving DecidableEq, Repr

/-- The actions of a rule (R32). -/
inductive Action where
  | answer | hold | note | claim | drop
  deriving DecidableEq, Repr

/-- The class of a rule's answer (R32). -/
inductive AnswerClass where
  | essential | ordinary
  deriving DecidableEq, Repr

/-- A receive rule (R32). Bit i of `groups` is set when group index i is among the destination classes. -/
structure Rule where
  inUse : Bool
  destOwn : Bool
  destBroadcast : Bool
  groups : BitVec 8
  ethertype : Option (BitVec 16)
  items : List CompareItem
  addrRef : Option AddrRef
  action : Action
  claimantOffset : Nat
  cls : AnswerClass
  template : Option (Fin 48)
  patchList : Option (Fin 32)
  lane : Fin 8
  weight : Nat
  deriving DecidableEq, Repr

/-- A rule after reset: not in use; its other fields are the model's (log 9). -/
def Rule.free : Rule where
  inUse := false
  destOwn := false
  destBroadcast := false
  groups := 0
  ethertype := none
  items := []
  addrRef := none
  action := .answer
  claimantOffset := 0
  cls := .essential
  template := none
  patchList := none
  lane := 0
  weight := 0

/-! ### Patch lists -/

/-- What a FILL_ENTRY patch names (R68). -/
inductive FillSource where
  | index (i : Fin 16)
  | matched
  deriving DecidableEq, Repr

/-- The pseudo-header kind of a SUM16 patch (R68). -/
inductive PseudoKind where
  | none | short | long
  deriving DecidableEq, Repr

/-- A patch of one of the seven kinds (R68). -/
inductive Patch where
  | copy (source dest count : Nat)
  | ownLink (dest : Nat)
  | fillEntry (dest : Nat) (source : FillSource)
  | setMasked (dest : Nat) (data mask : Byte)
  | counter (dest width : Nat)
  | length (dest base : Nat)
  | sum16 (start stop store : Nat) (pseudo : PseudoKind) (addrA addrB : Nat) (protocol : Byte) (zeroAsOnes : Bool)
  deriving DecidableEq, Repr

/-! ### Duties -/

/-- An ECHO item (R103). -/
structure EchoItem where
  offset : Nat
  width : Nat
  deriving DecidableEq, Repr

/-- A reply or reject pattern (R103). -/
structure Pattern where
  items : List CompareItem
  echo : Option EchoItem
  deriving DecidableEq, Repr

/-- A failure action (R103). -/
inductive FailureAction where
  | wake (lane : Fin 8) (weight : Nat)
  | suspend
  | continueRuns
  deriving DecidableEq, Repr

/-- The target of a capture (R103). -/
inductive CaptureTarget where
  | interval (numerator minInterval maxInterval : Nat)
  | counter
  deriving DecidableEq, Repr

/-- A capture (R103). -/
structure Capture where
  offset : Nat
  width : Nat
  target : CaptureTarget
  deriving DecidableEq, Repr

/-- The profile part of a duty (R103), the in-use and probe flags apart. -/
structure DutyProfile where
  template : Fin 48
  patchList : Option (Fin 32)
  firstDelay : Nat
  interval : Nat
  repeatCount : Nat
  reply : Option Pattern
  reject : Option Pattern
  replyWindow : Nat
  startupTries : Nat
  runTries : Nat
  backoffBase : Nat
  backoffMul : Fin 8
  roundsLimit : Nat
  failure : FailureAction
  capture : Option Capture
  counterInit : BitVec 32
  counterInc : Byte
  deriving DecidableEq, Repr

/-- The duty states (R105). -/
inductive DutyState where
  | waiting | blocked | queued | awaiting | backoff | deferred | done | suspended | failed
  deriving DecidableEq, Repr

/-- The pending step of a DEFERRED duty (R105, R128). -/
inductive PendingStep where
  | newRun | try_
  deriving DecidableEq, Repr

/-- The last outcome of a duty (R105). -/
inductive LastOutcome where
  | none | success | rejected | exhausted | abandoned | addressLost
  deriving DecidableEq, Repr

/-- The run-time state of a duty (R105). -/
structure DutyRun where
  state : DutyState
  pending : Option PendingStep
  void : Bool
  firstRun : Bool
  triesAllowed : Nat
  triesUsed : Nat
  failedRounds : Nat
  runsCompleted : Nat
  counter : BitVec 32
  capturedInterval : Option Nat
  lastCapture : Option Nat
  lastOutcome : LastOutcome
  timer : Timer
  deriving DecidableEq, Repr

/-- An in-use duty. -/
structure Duty where
  profile : DutyProfile
  run : DutyRun
  deriving DecidableEq, Repr

/-- A place of the Duty Table (R103): the probe flag, which outlives a freed duty (R136), and the duty when in use. -/
structure DutySlot where
  probe : Bool
  duty : Option Duty
  deriving DecidableEq, Repr

/-! ### Transmit Queue and Frame Port -/

/-- The origin of a Transmit Queue entry (R85). -/
inductive Origin where
  | rule (i : Fin 32)
  | duty (d : Fin 12)
  deriving DecidableEq, Repr

/-- The class of a Transmit Queue entry (R85). -/
inductive TxClass where
  | essential | ordinary | duty
  deriving DecidableEq, Repr

/-- A Transmit Queue entry (R85); its Length field is the number of its frame's bytes, its State is `inFlight`. -/
structure TxEntry where
  origin : Origin
  cls : TxClass
  frame : Frame
  inFlight : Bool
  deriving DecidableEq, Repr

/-- A record the part sends on the Frame Port (R98, R101). -/
inductive PortRecord where
  | owner (o : Owner)
  | frameToSend (frame : Frame)
  deriving DecidableEq, Repr

/-! ### Network Check, Load Governor, Wake Unit -/

/-- A present signature (R136). -/
structure Signature where
  gateway : LinkAddr
  probeDuty : Fin 12
  lane : Fin 8
  weight : Nat
  deriving DecidableEq, Repr

/-- The settings of the Load Governor (R149). -/
structure Curve where
  points : Vector Nat 9
  ramp : Nat
  stormLevel : Nat
  stormLane : Fin 8
  stormWeight : Nat
  deriving DecidableEq, Repr

/-- The defaults of the load curve (R20). -/
def Curve.default : Curve where
  points := Vector.replicate 9 32
  ramp := 8
  stormLevel := 0
  stormLane := 0
  stormWeight := 0

/-- The decay mode of a lane (R162). -/
inductive DecayMode where
  | shift | step
  deriving DecidableEq, Repr

/-- The settings of a lane (R162, R163). -/
structure LaneSetting where
  threshold : Nat
  mode : DecayMode
  shift : Nat
  step : Nat
  deriving DecidableEq, Repr

/-- The defaults of a lane's settings (R20). -/
def LaneSetting.default : LaneSetting := { threshold := 0, mode := .shift, shift := 0, step := 0 }

/-- The first reason and its time (R170); reasons 0 to 7 are lanes, reason 8 is TOTAL. -/
structure FirstReason where
  reason : Fin 9
  time : Nat
  deriving DecidableEq, Repr

/-! ### Statistics, held frames, wake report -/

/-- The statistics of the receive and transmit paths and of the Load Governor (R45, R95, R149). -/
structure Stats where
  received : Nat
  malformed : Nat
  foreignDest : Nat
  muted : Nat
  unmatched : Nat
  withheld : Nat
  overBudget : Nat
  holdRefused : Nat
  answersSent : Nat
  answersRefused : Nat
  queueFull : Nat
  essentialDrop : Nat
  linkDrop : Nat
  stormWindows : Nat
  deriving DecidableEq, Repr

/-- Every statistic 0 (R19, R45, R95). -/
def Stats.zero : Stats where
  received := 0
  malformed := 0
  foreignDest := 0
  muted := 0
  unmatched := 0
  withheld := 0
  overBudget := 0
  holdRefused := 0
  answersSent := 0
  answersRefused := 0
  queueFull := 0
  essentialDrop := 0
  linkDrop := 0
  stormWindows := 0

/-- A held-frame record (R178); its Length field is the number of its frame's bytes. -/
structure HeldFrame where
  time : Nat
  rule : Fin 32
  frame : Frame
  deriving DecidableEq, Repr

/-- What the wake report says of an in-use address entry (R185). -/
structure EntryReport where
  kind : AddrKind
  state : EntryState
  conflicts : Nat
  claimant : Option LinkAddr
  deriving DecidableEq, Repr

/-- What the wake report says of an in-use duty (R185). -/
structure DutyReport where
  state : DutyState
  outcome : LastOutcome
  runsCompleted : Nat
  failedRounds : Nat
  triesUsed : Nat
  counter : BitVec 32
  lastCapture : Option Nat
  capturedInterval : Option Nat
  deriving DecidableEq, Repr

/-- The wake report (R184 to R186). -/
structure WakeReport where
  proxyAtReclaim : ProxyState
  reclaimTime : Nat
  completionTime : Nat
  hostInitiated : Bool
  reasons : BitVec 9
  firstReason : Option FirstReason
  resignals : Nat
  lanes : Vector Nat 8
  net : NetState
  entries : Vector (Option EntryReport) 16
  duties : Vector (Option DutyReport) 12
  matchCounts : Vector Nat 32
  stats : Stats
  heldRecords : Nat
  heldBytes : Nat
  deriving DecidableEq, Repr

/-! ### Control Link -/

/-- The status codes of replies (11.3). -/
inductive Status where
  | ok | wrongState | badIndex | badValue | duplicate | noSpace | reference | badKind | badLength | empty
  deriving DecidableEq, Repr

/-- A reply in the reply slot (R190, R191): kind and tag echoed, status, the flags CLAMPED and REQUEST_DROPPED, body. -/
structure Reply where
  kind : Byte
  tag : Byte
  status : Status
  clamped : Bool
  dropped : Bool
  body : List Byte
  deriving DecidableEq, Repr

/-! ### The state -/

/-- Everything the spec gives the LA316, the queue of waiting commands, and the model's own fields `portOut`, `linkOut`
and `freeCount` (log 8, log 10). -/
structure State where
  /-- The proxy state (R1). -/
  proxy : ProxyState
  /-- Elapsed time in ms (R2). -/
  elapsed : Nat
  /-- The host-initiated flag (R10). -/
  hostInitiated : Bool
  /-- The proxy state in which the last Reclaim was taken (R184). -/
  reclaimState : ProxyState
  /-- The elapsed time at which the last Reclaim was taken (R184). -/
  reclaimTime : Nat
  /-- The station record (R4). -/
  station : Station
  /-- The statistics (R45, R95, R149). -/
  stats : Stats
  /-- The match counts of the 32 rules (R37, R45). -/
  matchCounts : Vector Nat 32
  /-- The Address Table; `none` is kind NONE (R46). -/
  entries : Vector (Option AddrEntry) 16
  /-- The Group List (R26). -/
  groups : Vector GroupEntry 8
  /-- The Rule Table (R32). -/
  rules : Vector Rule 32
  /-- The Template Pool in order of loading (R65). -/
  pool : List (Fin 48 × List Byte)
  /-- The patch lists; `none` is not loaded (R68). -/
  patchLists : Vector (Option (List Patch)) 32
  /-- The Transmit Queue, head first (R85). -/
  queue : List TxEntry
  /-- The Frame Port's link state (R96). -/
  linkState : LinkState
  /-- The port owner (R18). -/
  owner : Owner
  /-- The Duty Table (R103, R105). -/
  duties : Vector DutySlot 12
  /-- The network state (R137). -/
  net : NetState
  /-- The signature (R136). -/
  signature : Option Signature
  /-- The settings of the Load Governor (R149). -/
  curve : Curve
  /-- The window count n (R152). -/
  windowCount : Nat
  /-- The budget (R149). -/
  budget : Nat
  /-- Spent (R149). -/
  spent : Nat
  /-- The storm vote (R156). -/
  stormVote : Nat
  /-- The load-window timer (R151). -/
  windowTimer : Timer
  /-- The eight pressure lanes (R162). -/
  lanes : Vector Nat 8
  /-- The lane settings (R163). -/
  laneSettings : Vector LaneSetting 8
  /-- The reason set: bits 0 to 7 lanes, bit 8 TOTAL (R170, R200). -/
  reasons : BitVec 9
  /-- The first reason and its time (R170). -/
  firstReason : Option FirstReason
  /-- The re-signal count (R173). -/
  resignals : Nat
  /-- The decay-period timer (R166). -/
  decayTimer : Timer
  /-- The settle-hold timer (R168). -/
  settleTimer : Timer
  /-- The patience timer (R173). -/
  patienceTimer : Timer
  /-- The gap timer (R173). -/
  gapTimer : Timer
  /-- The WAKE line, asserted or not (R171). -/
  wake : Bool
  /-- The Held Frame Queue, head first (R178). -/
  held : List HeldFrame
  /-- The wake report (R183, R187). -/
  report : Option WakeReport
  /-- The reply slot (R191). -/
  reply : Option Reply
  /-- READY is pending (R192). -/
  readyPending : Bool
  /-- HANDBACK_DONE is pending (R192). -/
  handbackDonePending : Bool
  /-- Every record sent on the Frame Port, oldest first (the model's own, log 10). -/
  portOut : List PortRecord
  /-- The bytes each READ shifted out, oldest first (the model's own, log 10). -/
  linkOut : List (List Byte)
  /-- How many free values have been drawn (the model's own, log 8). -/
  freeCount : Nat
  /-- The waiting commands, first in first out (log 1). -/
  pending : List Instr
  deriving DecidableEq, Repr

/-- Reasons for which the block stops. There are none: no rule of the spec stops the part (log 21). What the part
cannot do it refuses with a status (R195), ignores (R92, R201) or discards (R189), and goes on. -/
inductive Fault where
  deriving DecidableEq, Repr

/-- Reasons for which a command has no meaning. -/
inductive Refusal where
  /-- Raised by `exec` for a command of the table that has no meaning yet; safe, since the model then says nothing. -/
  | notModelled (mnemonic : String)
  deriving DecidableEq, Repr

/-- The machine right after reset (R19, R20), with no command waiting. The OWNER HOST record that the reset sends is the
one record in `portOut`. Values the spec does not give: `hostInitiated` (R19 and R20 do not name the flag; clear, as Assume
and Rearm leave it), `reclaimState`, `reclaimTime`, `freeCount` and the fields of table places not in use (log 8, log 9). -/
def State.reset : State where
  proxy := .idle
  elapsed := 0
  hostInitiated := false
  reclaimState := .idle
  reclaimTime := 0
  station := Station.default
  stats := Stats.zero
  matchCounts := Vector.replicate 32 0
  entries := Vector.replicate 16 none
  groups := Vector.replicate 8 GroupEntry.free
  rules := Vector.replicate 32 Rule.free
  pool := []
  patchLists := Vector.replicate 32 none
  queue := []
  linkState := .unknown
  owner := .host
  duties := Vector.replicate 12 { probe := false, duty := none }
  net := .linkDown
  signature := none
  curve := Curve.default
  windowCount := 0
  budget := 32
  spent := 0
  stormVote := 0
  windowTimer := none
  lanes := Vector.replicate 8 0
  laneSettings := Vector.replicate 8 LaneSetting.default
  reasons := 0
  firstReason := none
  resignals := 0
  decayTimer := none
  settleTimer := none
  patienceTimer := none
  gapTimer := none
  wake := false
  held := []
  report := none
  reply := none
  readyPending := true
  handbackDonePending := false
  portOut := [.owner .host]
  linkOut := []
  freeCount := 0
  pending := []

end Sys2Proof.Machine
end

