-- ==== Sys2Proof/Machine/Flags.lean ====
section
/-! DEFINITION. Saturating counts, the conditions other operations test (ATTN, activity of the part, leave to run), and
the codes of named values on the Control Link (R200). -/

namespace Sys2Proof.Machine

/-! ### Saturating counts -/

/-- A 32-bit count raised by `k`, stopping at 4,294,967,295 (00_scope.md, Counters). -/
def satAdd32 (n k : Nat) : Nat := min (n + k) Config.max32

/-- A lane or window count raised by `k`, stopping at 65,535 (R28, R164). -/
def satAdd16 (n k : Nat) : Nat := min (n + k) Config.max16

/-- A conflict count or failed-rounds count raised by 1, stopping at 255 (R54, R116). -/
def satInc8 (n : Nat) : Nat := min (n + 1) 255

/-! ### Conditions -/

/-- The part proxies: the proxy state is PROXY or WAKING (R3). -/
def State.active (s : State) : Bool := s.proxy == .proxy || s.proxy == .waking

/-- ATTN: asserted while the reply slot holds a reply or a notice is pending (R194). -/
def State.attn (s : State) : Bool := s.reply.isSome || s.readyPending || s.handbackDonePending

/-- A duty's leave to run (R106): in ATTACHED every duty, in CHECKING the probe duty. -/
def hasLeave (net : NetState) (probe : Bool) : Bool := net == .attached || (net == .checking && probe)

/-! ### Codes (R200, 11.3) -/

/-- Status codes (11.3). -/
def Status.code : Status → Byte
  | .ok => 0
  | .wrongState => 1
  | .badIndex => 2
  | .badValue => 3
  | .duplicate => 4
  | .noSpace => 5
  | .reference => 6
  | .badKind => 7
  | .badLength => 8
  | .empty => 9

/-- Proxy state codes (R200). -/
def ProxyState.code : ProxyState → Byte
  | .idle => 0
  | .proxy => 1
  | .waking => 2
  | .handback => 3
  | .report => 4

/-- Network state codes (R200). -/
def NetState.code : NetState → Byte
  | .attached => 0
  | .linkDown => 1
  | .checking => 2
  | .foreign => 3

/-- Link state codes (R200). -/
def LinkState.code : LinkState → Byte
  | .unknown => 0
  | .up => 1
  | .down => 2

/-- Owner codes of the owner record (R200). -/
def Owner.code : Owner → Byte
  | .host => 0
  | .part => 1

/-- Entry kind codes; NONE, for an entry not in use, is 0 (R200). -/
def AddrKind.code : AddrKind → Byte
  | .short => 1
  | .long => 2

/-- Entry state codes (R200). -/
def EntryState.code : EntryState → Byte
  | .tentative => 0
  | .defended => 1
  | .contested => 2
  | .lost => 3

/-- Duty state codes; a duty not in use is 0xFF (R200). -/
def DutyState.code : DutyState → Byte
  | .waiting => 0
  | .blocked => 1
  | .queued => 2
  | .awaiting => 3
  | .backoff => 4
  | .deferred => 5
  | .done => 6
  | .suspended => 7
  | .failed => 8

/-- Last outcome codes (R200). -/
def LastOutcome.code : LastOutcome → Byte
  | .none => 0
  | .success => 1
  | .rejected => 2
  | .exhausted => 3
  | .abandoned => 4
  | .addressLost => 5

/-- First reason codes: lane 0 to 7, TOTAL 8, absent 0xFF (R200). -/
def firstReasonCode : Option FirstReason → Byte
  | none => 0xFF
  | some r => BitVec.ofNat 8 r.reason.val

/-- Loaded state from its code (R200). -/
def loadedOfCode : Nat → Option LoadedState
  | 0 => some .tentative
  | 1 => some .defended
  | _ => none

/-- Answer mode from its code (R200). -/
def modeOfCode : Nat → Option AnswerMode
  | 0 => some .answer
  | 1 => some .observe
  | _ => none

/-- Address-reference kind from its code (R200). -/
def refKindOfCode : Nat → Option AddrKind
  | 1 => some .short
  | 2 => some .long
  | _ => none

/-- Rule action from its code (R200). -/
def actionOfCode : Nat → Option Action
  | 0 => some .answer
  | 1 => some .hold
  | 2 => some .note
  | 3 => some .claim
  | 4 => some .drop
  | _ => none

/-- Answer class from its code (R200). -/
def classOfCode : Nat → Option AnswerClass
  | 0 => some .essential
  | 1 => some .ordinary
  | _ => none

/-- Pseudo-header kind from its code (R200). -/
def pseudoOfCode : Nat → Option PseudoKind
  | 0 => some .none
  | 1 => some .short
  | 2 => some .long
  | _ => none

/-- Decay mode from its code (R200). -/
def decayModeOfCode : Nat → Option DecayMode
  | 0 => some .shift
  | 1 => some .step
  | _ => none

end Sys2Proof.Machine
end

