-- ==== Sys2Proof/Machine/Ops.lean ====
section
/-! DEFINITION. The shared operations over the tables of State: whole-table maps, lookups, and the updates of one
address entry, one duty and the timers. -/

namespace Sys2Proof.Machine

/-- A table with `f` applied to every place. -/
def mapTable {α β : Type} {n : Nat} (f : α → β) (v : Vector α n) : Vector β n :=
  Vector.ofFn fun i => f v[i]

/-! ### Statistics and match counts -/

/-- The state with its statistics changed. -/
def State.count (f : Stats → Stats) (s : State) : State := { s with stats := f s.stats }

/-- A rule's match count raised by 1 (R37). -/
def countMatch (i : Fin 32) (s : State) : State :=
  { s with matchCounts := s.matchCounts.set i (satAdd32 s.matchCounts[i] 1) }

/-! ### Template Pool and patch lists -/

/-- The bytes of a loaded template (R65). -/
def template? (s : State) (id : Fin 48) : Option (List Byte) :=
  (s.pool.find? fun t => t.1 == id).map Prod.snd

/-- The bytes the loaded templates take up (R65). -/
def poolUsed (s : State) : Nat := (s.pool.map fun t => t.2.length).sum

/-- The Template Pool's free bytes (R65). -/
def freePoolBytes (s : State) : Nat := Config.poolBytes - poolUsed s

/-- The patches of a patch list that may be absent; none when it is absent or not loaded. -/
def patchesOf (s : State) (list : Option (Fin 32)) : List Patch :=
  match list with
  | none => []
  | some id => (s.patchLists[id]).getD []

/-! ### Address Table -/

/-- The kind of a network address. -/
def NetAddr.kind : NetAddr → AddrKind
  | .short _ => .short
  | .long _ => .long

/-- One address entry changed, where it is in use. -/
def updEntry (i : Fin 16) (f : AddrEntry → AddrEntry) (s : State) : State :=
  { s with entries := s.entries.set i (s.entries[i].map f) }

/-- An entry's current state and timers put back to its loaded state, with an empty conflict count (R7, R15, R49). -/
def AddrEntry.restore (e : AddrEntry) : AddrEntry :=
  { e with
    state := match e.loaded with | .tentative => .tentative | .defended => .defended
    conflicts := 0
    tentativeTimer := none
    contestTimer := none }

/-! ### Duty Table -/

/-- The duty at an id, absent when not in use. -/
def duty? (s : State) (d : Fin 12) : Option Duty := s.duties[d].duty

/-- One duty's run-time state changed, where the duty is in use. -/
def updRun (d : Fin 12) (f : DutyRun → DutyRun) (s : State) : State :=
  { s with
    duties := s.duties.set d
      { s.duties[d] with duty := s.duties[d].duty.map fun u => { u with run := f u.run } } }

/-- Every in-use duty's run-time state changed. -/
def mapRuns (f : Fin 12 → DutySlot → DutyRun → DutyRun) (s : State) : State :=
  { s with
    duties := Vector.ofFn fun d =>
      { s.duties[d] with duty := s.duties[d].duty.map fun u => { u with run := f d s.duties[d] u.run } } }

/-- A duty entering a state: no pending step, no void mark, no timer (R105, 6.2). -/
def DutyRun.enter (st : DutyState) (r : DutyRun) : DutyRun :=
  { r with state := st, pending := none, void := false, timer := none }

/-- A duty becoming DEFERRED with a pending step (R128). -/
def DutyRun.defer (p : PendingStep) (r : DutyRun) : DutyRun :=
  { r.enter .deferred with pending := some p }

/-- A duty becoming SUSPENDED with last outcome ADDRESS_LOST (R131). -/
def DutyRun.loseAddress (r : DutyRun) : DutyRun :=
  { r.enter .suspended with lastOutcome := .addressLost }

/-! ### Timers -/

/-- A timer with one ms less to run. -/
def Timer.tick (t : Timer) : Timer := t.map (· - 1)

/-- One millisecond passes on every running timer (log 2). -/
def tickTimers (s : State) : State :=
  { s with
    entries := mapTable (fun e => e.map fun a =>
      { a with tentativeTimer := Timer.tick a.tentativeTimer, contestTimer := Timer.tick a.contestTimer }) s.entries
    duties := mapTable (fun slot : DutySlot => { slot with duty := slot.duty.map fun u =>
      { u with run := { u.run with timer := Timer.tick u.run.timer } } }) s.duties
    windowTimer := Timer.tick s.windowTimer
    decayTimer := Timer.tick s.decayTimer
    settleTimer := Timer.tick s.settleTimer
    patienceTimer := Timer.tick s.patienceTimer
    gapTimer := Timer.tick s.gapTimer }

/-- Every timer stopped (R10, R175). -/
def stopTimers (s : State) : State :=
  { s with
    entries := mapTable (fun e => e.map fun a => { a with tentativeTimer := none, contestTimer := none }) s.entries
    duties := mapTable (fun slot : DutySlot => { slot with duty := slot.duty.map fun u =>
      { u with run := { u.run with timer := none } } }) s.duties
    windowTimer := none
    decayTimer := none
    settleTimer := none
    patienceTimer := none
    gapTimer := none }

/-! ### Held Frame Queue -/

/-- The Held Frame Queue's byte total (R178). -/
def heldBytes (s : State) : Nat := (s.held.map fun h => h.frame.length).sum

/-! ### Frame Port -/

/-- An owner record sent, which sets the port owner (R18, R101). -/
def sendOwner (o : Owner) (s : State) : State :=
  { s with owner := o, portOut := s.portOut ++ [.owner o] }

end Sys2Proof.Machine
end

