-- ==== Sys2Proof/Machine/Builder.lean ====
section
/-! DEFINITION. The Answer Builder (chapter 4): patches, the Internet checksum, padding and the VLAN tag. Its one build
buffer lives inside a build and is no state of its own (R70: nothing is kept from one build to the next; log 19). -/

namespace Sys2Proof.Machine

/-- What a build reads beside its template and patch list (R70). -/
structure BuildOperands where
  request : Frame
  matched : Option NetAddr
  counter : BitVec 32

/-- The bytes of a network address: 4 for SHORT, 16 for LONG. -/
def NetAddr.bytes : NetAddr → List Byte
  | .short v => bytesOfBits 4 v
  | .long v => bytesOfBits 16 v

/-- The bytes a COPY patch writes: byte i is the request's byte at source + i, and zero at or past its end (R72). -/
def copyBytes (request : Frame) (source count : Nat) : List Byte :=
  (List.range count).map fun i => request.getD (source + i) 0

/-! ### The Internet checksum -/

/-- The sum of the 16-bit words of a byte list; an odd last byte is a high byte (R77). -/
def wordSum : List Byte → Nat
  | [] => 0
  | [hi] => hi.toNat * 256
  | hi :: lo :: rest => hi.toNat * 256 + lo.toNat + wordSum rest

/-- Folding: the bits above the low 16 are added to the low 16 until none is left above (R79). `fuel` bounds the rounds;
three suffice below 2^32. -/
def fold16 : Nat → Nat → Nat
  | 0, v => v
  | fuel + 1, v => if v < 65536 then v else fold16 fuel (v / 65536 + v % 65536)

/-- The words a pseudo-header adds (R78), read from the buffer with the store field as zero. -/
def pseudoSum (buf : List Byte) (rangeLength : Nat) (pseudo : PseudoKind) (addrA addrB : Nat) (protocol : Byte) : Nat :=
  match pseudo with
  | .none => 0
  | .short => wordSum (slice buf addrA 4) + wordSum (slice buf addrB 4) + protocol.toNat + rangeLength
  | .long =>
    wordSum (slice buf addrA 16) + wordSum (slice buf addrB 16) + rangeLength / 65536 + rangeLength % 65536
      + protocol.toNat

/-- The two bytes a SUM16 patch stores (R77 to R79). -/
def sum16Bytes (buf : List Byte) (start stop store : Nat) (pseudo : PseudoKind) (addrA addrB : Nat) (protocol : Byte)
    (zeroAsOnes : Bool) : List Byte :=
  let zeroed := overlay buf store [0, 0]
  let total := wordSum (slice zeroed start (stop - start)) + pseudoSum zeroed (stop - start) pseudo addrA addrB protocol
  let sum := 65535 - fold16 32 total
  bytesOfNat 2 (if sum = 0 && zeroAsOnes then 65535 else sum)

/-! ### Patches -/

/-- One patch applied to the buffer (R71 to R79). A FILL_ENTRY that names an entry not in use, or MATCHED without a
matched entry, is found by Assume (R83); here it writes nothing (log 18). -/
def applyPatch (s : State) (ops : BuildOperands) (buf : List Byte) : Patch → List Byte
  | .copy source dest count => overlay buf dest (copyBytes ops.request source count)
  | .ownLink dest => overlay buf dest (bytesOfBits 6 s.station.ownAddr)
  | .fillEntry dest (.index i) =>
    match s.entries[i] with
    | some e => overlay buf dest e.value.bytes
    | none => buf
  | .fillEntry dest .matched =>
    match ops.matched with
    | some v => overlay buf dest v.bytes
    | none => buf
  | .setMasked dest data mask =>
    overlay buf dest [(data &&& mask) ||| (buf.getD dest 0 &&& ~~~mask)]
  | .counter dest width => overlay buf dest (bytesOfBits width ops.counter)
  | .length dest base => overlay buf dest (bytesOfNat 2 (buf.length - base))
  | .sum16 start stop store pseudo addrA addrB protocol zeroAsOnes =>
    overlay buf store (sum16Bytes buf start stop store pseudo addrA addrB protocol zeroAsOnes)

/-- Padding to 60 bytes (R80). -/
def padFrame (f : Frame) : Frame := f ++ List.replicate (60 - f.length) 0

/-- The station's VLAN tag inserted at offset 12, when the station has a VLAN id (R81). -/
def tagFrame (vlan : Option (BitVec 12)) (f : Frame) : Frame :=
  match vlan with
  | none => f
  | some v => f.take 12 ++ [0x81, 0x00] ++ bytesOfNat 2 v.toNat ++ f.drop 12

/-- A build (R71): the template's bytes, the patches in list order, padding, the tag. -/
def buildFrame (s : State) (template : List Byte) (patches : List Patch) (ops : BuildOperands) : Frame :=
  tagFrame s.station.vlan (padFrame (patches.foldl (applyPatch s ops) template))

/-- An answer's frame, from a rule's template id and patch list id (R40, R43, R70). -/
def buildAnswer (s : State) (template : Fin 48) (list : Option (Fin 32)) (request : Frame) (matched : Option NetAddr) :
    Frame :=
  buildFrame s ((template? s template).getD []) (patchesOf s list)
    { request := request, matched := matched, counter := 0 }

/-- A duty's frame, from its profile and run counter (R70, R109). -/
def buildDuty (s : State) (u : Duty) : Frame :=
  buildFrame s ((template? s u.profile.template).getD []) (patchesOf s u.profile.patchList)
    { request := [], matched := none, counter := u.run.counter }

end Sys2Proof.Machine
end

