-- ==== Sys2Proof/Machine/TxQueue.lean ====
section
/-! DEFINITION. The Transmit Queue (chapter 5): admission by class, the entry in flight, removal of queued entries. -/

namespace Sys2Proof.Machine

/-- Entries of class ORDINARY, the one in flight included (R85). -/
def ordinaryCount (q : List TxEntry) : Nat := q.countP fun e => e.cls == .ordinary

/-- The admission limits of the three classes (R87 to R89). -/
def admits (q : List TxEntry) (cls : TxClass) : Bool :=
  decide (q.length < Config.queueLimit) && (cls != .ordinary || decide (ordinaryCount q < Config.ordinaryLimit))

/-- An entry joins the tail as QUEUED (R85). -/
def enqueue (origin : Origin) (cls : TxClass) (frame : Frame) (s : State) : State :=
  { s with queue := s.queue ++ [{ origin := origin, cls := cls, frame := frame, inFlight := false }] }

/-- An answer offered by the classifier: admitted, with spent raised for an ORDINARY one, or dropped and counted (R87, R88). -/
def offerAnswer (rule : Fin 32) (cls : AnswerClass) (frame : Frame) (s : State) : State :=
  match cls with
  | .ordinary =>
    if admits s.queue .ordinary then enqueue (.rule rule) .ordinary frame { s with spent := s.spent + 1 }
    else s.count fun c => { c with queueFull := satAdd32 c.queueFull 1 }
  | .essential =>
    if admits s.queue .essential then enqueue (.rule rule) .essential frame s
    else s.count fun c => { c with essentialDrop := satAdd32 c.essentialDrop 1 }

/-- An entry is in flight. -/
def someInFlight (q : List TxEntry) : Bool := q.any fun e => e.inFlight

/-- The oldest QUEUED entry made IN_FLIGHT: the new list and that entry's frame (R86). -/
def launch : List TxEntry → Option (List TxEntry × Frame)
  | [] => none
  | e :: q =>
    if e.inFlight then (launch q).map fun (q', f) => (e :: q', f)
    else some ({ e with inFlight := true } :: q, e.frame)

/-- With nothing in flight, the oldest QUEUED entry goes IN_FLIGHT and its frame-to-send record is sent (R86, R98); only
in PROXY, WAKING and HANDBACK. -/
def startTransmit (s : State) : State :=
  if (s.active || s.proxy == .handback) && !someInFlight s.queue then
    match launch s.queue with
    | some (q, f) => { s with queue := q, portOut := s.portOut ++ [.frameToSend f] }
    | none => s
  else s

/-- The entry in flight taken out of the list (R91). -/
def takeInFlight : List TxEntry → Option (TxEntry × List TxEntry)
  | [] => none
  | e :: q => if e.inFlight then some (e, q) else (takeInFlight q).map fun (x, q') => (x, e :: q')

/-- Every QUEUED entry removed; each removed answer is counted as a link drop (R10, R93). -/
def dropQueued (s : State) : State :=
  { s with
    queue := s.queue.filter fun e => e.inFlight
    stats := { s.stats with
      linkDrop := satAdd32 s.stats.linkDrop (s.queue.countP fun e => !e.inFlight && e.cls != .duty) } }

/-- A duty's entry is in flight. -/
def dutyInFlight (q : List TxEntry) (d : Fin 12) : Bool := q.any fun e => e.inFlight && e.origin == .duty d

end Sys2Proof.Machine
end

