-- ==== Sys2Proof/Machine/WakeUnit.lean ====
section
/-! DEFINITION. The Wake Unit (chapter 9): additions to the pressure lanes, evaluation, the reason set and the wake
decision, decay. -/

namespace Sys2Proof.Machine

/-- The sum of the eight lanes (R162). -/
def laneTotal (s : State) : Nat := s.lanes.toList.sum

/-- Lane j is at or above its threshold, and the threshold is not 0 (R165). -/
def laneReached (s : State) (j : Fin 8) : Bool :=
  decide (s.laneSettings[j].threshold ≠ 0) && decide (s.laneSettings[j].threshold ≤ s.lanes[j])

/-- The total is at or above the total threshold, and the threshold is not 0 (R165). -/
def totalReached (s : State) : Bool :=
  decide (s.station.totalThreshold ≠ 0) && decide (s.station.totalThreshold ≤ laneTotal s)

/-- A member joins the reason set; the first to join an empty set is the first reason, with the elapsed time (R170). A
member already in the set does not join again (R165). -/
def joinReason (r : Fin 9) (s : State) : State :=
  if s.reasons.getLsbD r.val then s
  else
    { s with
      reasons := s.reasons ||| BitVec.twoPow 9 r.val
      firstReason := if s.reasons = 0 then some { reason := r, time := s.elapsed } else s.firstReason }

/-- Lane j joins the reason set when it has reached its threshold. -/
def testLane (s : State) (j : Fin 8) : State :=
  if laneReached s j then joinReason ⟨j.val, by omega⟩ s else s

/-- TOTAL joins the reason set when it has reached its threshold. -/
def testTotal (s : State) : State :=
  if totalReached s then joinReason 8 s else s

/-- The wake decision (R171): when an evaluation has turned the reason set from empty to non-empty in PROXY, the state
becomes WAKING, WAKE is asserted and the patience timer starts. -/
def wakeDecision (before after : State) : State :=
  if before.reasons = 0 ∧ after.reasons ≠ 0 ∧ after.proxy = .proxy then
    { after with proxy := .waking, wake := true, patienceTimer := some (after.station.wakePatience * 1000) }
  else after

/-- The evaluation after an addition to lane j: lane j, then TOTAL (R165). -/
def evaluateLane (j : Fin 8) (s : State) : State :=
  wakeDecision s (testTotal (testLane s j))

/-- The settle hold's evaluation: lanes 0 to 7 in turn, then TOTAL (R168). -/
def evaluateAll (s : State) : State :=
  wakeDecision s (testTotal ((List.finRange 8).foldl testLane s))

/-- An addition of weight `w` to lane j (R164). Weight 0 sends none; outside PROXY and WAKING it is discarded; while the
settle hold runs it is not evaluated. -/
def addWeight (j : Fin 8) (w : Nat) (s : State) : State :=
  if w = 0 || !s.active then s
  else
    let s' := { s with lanes := s.lanes.set j (satAdd16 s.lanes[j] w) }
    if s.settleTimer.isSome then s' else evaluateLane j s'

/-- A lane value after one decay (R166). -/
def LaneSetting.decay (c : LaneSetting) (v : Nat) : Nat :=
  match c.mode with
  | .shift => v / 2 ^ c.shift
  | .step => v - c.step

/-- Every lane decays by its own setting (R166). -/
def decayLanes (s : State) : State :=
  { s with lanes := Vector.ofFn fun j => (s.laneSettings[j]).decay s.lanes[j] }

end Sys2Proof.Machine
end

