-- ==== Sys2Proof/Machine/DutyOps.lean ====
section
/-! DEFINITION. The Duty Scheduler's shared operations (chapter 6): tries, runs, deferral, the blocked-duty arbiter,
failure actions, success and capture. -/

namespace Sys2Proof.Machine

/-! ### Checks -/

/-- The duty at an id has leave to run (R106). -/
def dutyLeave (s : State) (d : Fin 12) : Bool := hasLeave s.net s.duties[d].probe

/-- A patch list holds a FILL_ENTRY naming by index an entry that is LOST (R61, R131). -/
def namesLost (s : State) (patches : List Patch) : Bool :=
  patches.any fun p =>
    match p with
    | .fillEntry _ (.index i) => (s.entries[i]).any fun e => e.state == .lost
    | _ => false

/-- The factor a backoff multiplier index selects (R103). -/
def backoffFactor (i : Fin 8) : Nat :=
  match i.val with
  | 0 => 1
  | 1 => 2
  | 2 => 3
  | 3 => 4
  | 4 => 6
  | 5 => 8
  | 6 => 12
  | _ => 16

/-! ### Tries and runs -/

/-- A try (R109): without leave DEFERRED with pending step TRY; with a LOST entry named SUSPENDED; else the frame is built
and offered, and the duty becomes QUEUED, or BLOCKED when the queue holds 8 entries (R89). -/
def makeTry (d : Fin 12) (s : State) : State :=
  match duty? s d with
  | none => s
  | some u =>
    if !dutyLeave s d then updRun d (DutyRun.defer .try_) s
    else if namesLost s (patchesOf s u.profile.patchList) then updRun d DutyRun.loseAddress s
    else if admits s.queue .duty then
      updRun d (DutyRun.enter .queued) (enqueue (.duty d) .duty (buildDuty s u) s)
    else updRun d (DutyRun.enter .blocked) s

/-- The counters of a new run (R108, R133): the run counter moved, tries used 0, the first-run mark cleared. -/
def DutyRun.begin (allowed : Nat) (inc : Byte) (r : DutyRun) : DutyRun :=
  { r with
    counter := r.counter + BitVec.ofNat 32 inc.toNat
    triesUsed := 0
    triesAllowed := allowed
    firstRun := false }

/-- A new run and its first try (R108). -/
def startRun (d : Fin 12) (s : State) : State :=
  match duty? s d with
  | none => s
  | some u =>
    makeTry d (updRun d
      (DutyRun.begin (if u.run.firstRun then u.profile.startupTries else u.profile.runTries) u.profile.counterInc) s)

/-- A duty about to start a run (R107): without leave DEFERRED with pending step NEW_RUN; with a LOST entry named
SUSPENDED; else a new run. -/
def beginRun (d : Fin 12) (s : State) : State :=
  match duty? s d with
  | none => s
  | some u =>
    if !dutyLeave s d then updRun d (DutyRun.defer .newRun) s
    else if namesLost s (patchesOf s u.profile.patchList) then updRun d DutyRun.loseAddress s
    else startRun d s

/-- A DEFERRED duty that has leave to run carries out its pending step (R128). -/
def resumeDuty (s : State) (d : Fin 12) : State :=
  match duty? s d with
  | none => s
  | some u =>
    if u.run.state == .deferred && dutyLeave s d then
      match u.run.pending with
      | some .newRun => beginRun d s
      | some .try_ => makeTry d s
      | none => s
    else s

/-- Every DEFERRED duty that has leave to run carries out its pending step, in ascending id (R128). -/
def resumeDeferred (s : State) : State := (List.finRange 12).foldl resumeDuty s

/-! ### The blocked-duty arbiter -/

/-- The duty at an id is BLOCKED. -/
def isBlocked (s : State) (d : Fin 12) : Bool := (duty? s d).any fun u => u.run.state == .blocked

/-- One step of offering a place in ascending id: while the place is free, a BLOCKED duty makes its try (R110). -/
def offerTo (len : Nat) (s : State) (d : Fin 12) : State :=
  if isBlocked s d && decide (s.queue.length ≤ len) then makeTry d s else s

/-- One free place offered to the BLOCKED duties in ascending id until one takes it or none is left (R90). -/
def offerPlace (s : State) : State :=
  if s.queue.length < Config.queueLimit then (List.finRange 12).foldl (offerTo s.queue.length) s else s

/-- Every free place offered (R90): the arbiter's work for `n` places. -/
def offerPlaces : Nat → State → State
  | 0, s => s
  | n + 1, s => offerPlaces n (offerPlace s)

/-- The blocked-duty arbiter (R90): each free place of the queue is offered. -/
def arbiter (s : State) : State := offerPlaces (Config.queueLimit - s.queue.length) s

/-! ### The end of a run -/

/-- After a success or a CONTINUE: WAITING for the interval, or DONE when the repeats are spent (R119). -/
def DutyRun.afterRun (p : DutyProfile) (r : DutyRun) : DutyRun :=
  if p.repeatCount = 65535 ∨ r.runsCompleted < p.repeatCount + 1 then
    { r.enter .waiting with timer := some (r.capturedInterval.getD p.interval * 1000) }
  else r.enter .done

/-- The captured interval from a captured value (R121). -/
def capturedSeconds (v numerator minI maxI : Nat) : Nat :=
  let q := v * numerator / 256
  if q < minI then minI else if maxI < q then maxI else q

/-- A capture applied to the consumed reply frame (R120 to R122). -/
def DutyRun.capture (c : Capture) (frame : Frame) (r : DutyRun) : DutyRun :=
  match field? frame c.offset c.width with
  | none => r
  | some v =>
    match c.target with
    | .interval numerator minI maxI =>
      { r with lastCapture := some v, capturedInterval := some (capturedSeconds v numerator minI maxI) }
    | .counter => { r with lastCapture := some v, counter := BitVec.ofNat 32 v }

/-- The success of a run (R118): counted, the capture applied to the reply frame if one was consumed, then R119. -/
def DutyRun.succeed (p : DutyProfile) (reply : Option Frame) (r : DutyRun) : DutyRun :=
  let counted := { r with
    runsCompleted := satAdd32 r.runsCompleted 1
    failedRounds := 0
    lastOutcome := .success }
  let captured :=
    match p.capture, reply with
    | some c, some frame => counted.capture c frame
    | _, _ => counted
  captured.afterRun p

/-- A CONTINUE failure action (R126): the run counts as completed. -/
def DutyRun.continueAfter (p : DutyProfile) (r : DutyRun) : DutyRun :=
  DutyRun.afterRun p { r with runsCompleted := satAdd32 r.runsCompleted 1, failedRounds := 0 }

/-- The run of the duty at `d` succeeds (R118). -/
def succeedRun (d : Fin 12) (reply : Option Frame) (s : State) : State :=
  match duty? s d with
  | none => s
  | some u => updRun d (DutyRun.succeed u.profile reply) s

/-- The failure action after EXHAUSTED or REJECTED (R124 to R126). -/
def failureAction (d : Fin 12) (s : State) : State :=
  match duty? s d with
  | none => s
  | some u =>
    match u.profile.failure with
    | .wake lane weight => updRun d (DutyRun.enter .failed) (addWeight lane weight s)
    | .suspend => updRun d (DutyRun.enter .suspended) s
    | .continueRuns => updRun d (DutyRun.continueAfter u.profile) s

end Sys2Proof.Machine
end

