-- ==== Sys2Proof/Machine/NetCheck.lean ====
section
/-! DEFINITION. The Network Check (chapter 7) and the duty results that depend on it: entry into FOREIGN, link changes,
the restart of the probe, failed tries and rounds, replies and rejects. -/

namespace Sys2Proof.Machine

/-! ### FOREIGN -/

/-- A duty that loses its leave to run at entry into FOREIGN (R130): QUEUED is voided, AWAITING is deferred. -/
def DutyRun.loseLeave (r : DutyRun) : DutyRun :=
  match r.state with
  | .queued => { r with void := true }
  | .awaiting => r.defer .try_
  | _ => r

/-- Entry into FOREIGN from the network state in force (R145): the signature's weight is added, and every duty that held
leave to run loses it. -/
def enterForeign (s : State) : State :=
  let weighed :=
    match s.signature with
    | some g => addWeight g.lane g.weight { s with net := .foreign }
    | none => { s with net := .foreign }
  mapRuns (fun _ slot r => if hasLeave s.net slot.probe then r.loseLeave else r) weighed

/-- The probe becomes DEFERRED with pending step NEW_RUN and the network FOREIGN (R142, R143). -/
def probeForeign (d : Fin 12) (s : State) : State :=
  enterForeign (updRun d (DutyRun.defer .newRun) s)

/-- The duty at an id is the probe and the network state is CHECKING (R132). -/
def probing (s : State) (d : Fin 12) : Bool := s.net == .checking && s.duties[d].probe

/-! ### Failed tries and rounds -/

/-- A round fails (R116): backoff, or the end of the run; for the probe in CHECKING, FOREIGN (R143). -/
def failRound (d : Fin 12) (s : State) : State :=
  match duty? s d with
  | none => s
  | some u =>
    if probing s d then
      probeForeign d (updRun d (fun r => { r with failedRounds := 1, lastOutcome := .exhausted }) s)
    else
      let rounds := satInc8 u.run.failedRounds
      if u.profile.roundsLimit = 0 ∨ rounds < u.profile.roundsLimit then
        updRun d (fun r =>
          { r.enter .backoff with
            failedRounds := rounds
            timer := some (u.profile.backoffBase * backoffFactor u.profile.backoffMul * 1000) }) s
      else
        failureAction d (updRun d (fun r => { r with failedRounds := rounds, lastOutcome := .exhausted }) s)

/-- A try fails (R115): another try at once, or the round fails. -/
def failTry (d : Fin 12) (s : State) : State :=
  match duty? s d with
  | none => s
  | some u =>
    let counted := updRun d (fun r => { r with triesUsed := r.triesUsed + 1 }) s
    if u.run.triesUsed + 1 < u.run.triesAllowed then makeTry d counted else failRound d counted

/-! ### Replies and rejects -/

/-- A duty consumes a frame that matches its reply pattern (R114, R118); the source of a probe's reply decides the network
state (R141, R142, R144). -/
def takeReply (d : Fin 12) (frame : Frame) (s : State) : State :=
  let fromGateway := s.signature.any fun g => g.gateway == linkAddrAt frame 6
  if probing s d then
    if fromGateway then resumeDeferred (succeedRun d (some frame) { s with net := .attached })
    else probeForeign d s
  else
    let done := succeedRun d (some frame) s
    if s.net == .attached && s.duties[d].probe && s.signature.isSome && !fromGateway then enterForeign done else done

/-- A duty consumes a frame that matches its reject pattern alone (R123, R143). -/
def takeReject (d : Fin 12) (s : State) : State :=
  let rejected := updRun d (fun r => { r with lastOutcome := .rejected }) s
  if probing s d then probeForeign d rejected else failureAction d rejected

/-- A QUEUED duty acts on the transmit result of its entry (R111, R112). -/
def dutyResult (d : Fin 12) (result : TxResult) (s : State) : State :=
  match duty? s d with
  | none => s
  | some u =>
    if u.run.state != .queued then s
    else if u.run.void then makeTry d (updRun d (fun r => { r with void := false }) s)
    else
      match result with
      | .refused => failTry d s
      | .sent =>
        if u.profile.reply.isSome then
          updRun d (fun r => { r.enter .awaiting with timer := some u.profile.replyWindow }) s
        else succeedRun d none s

/-! ### Link changes -/

/-- What link down does to a duty (R129), with the Transmit Queue as the removal left it. -/
def DutyRun.linkDown (inFlight : Bool) (r : DutyRun) : DutyRun :=
  match r.state with
  | .queued => if inFlight then { r with void := true } else r.defer .try_
  | .awaiting => r.defer .try_
  | _ => r

/-- A link change to DOWN (R138): LINK_DOWN; the queued entries are removed (R93); the duties act (R129); the freed places
are offered (R90). In LINK_DOWN it changes nothing. -/
def linkDown (s : State) : State :=
  if s.net == .linkDown then s
  else
    let dropped := dropQueued { s with net := .linkDown }
    arbiter (mapRuns (fun d _ r => r.linkDown (dutyInFlight dropped.queue d)) dropped)

/-- The probe duty: the lowest id whose probe flag is set on an in-use duty (R132; R136: at most one carries the flag). -/
def probeDuty? (s : State) : Option (Fin 12) :=
  (List.finRange 12).find? fun d => s.duties[d].probe && s.duties[d].duty.isSome

/-- A restart of the probe (R133). -/
def restartProbe (s : State) : State :=
  match probeDuty? s with
  | none => s
  | some d =>
    match duty? s d with
    | none => s
    | some u =>
      let begun := updRun d (fun r =>
        { r.begin u.profile.startupTries u.profile.counterInc with
          failedRounds := 0
          pending := none
          timer := none }) s
      if u.run.state == .queued && dutyInFlight s.queue d then updRun d (fun r => { r with void := true }) begun
      else makeTry d begun

/-- A link change to UP (R139): from LINK_DOWN to ATTACHED, or with a signature to CHECKING and a restart of the probe. -/
def linkUp (s : State) : State :=
  if s.net == .linkDown then
    if s.signature.isSome then restartProbe { s with net := .checking }
    else resumeDeferred { s with net := .attached }
  else s

end Sys2Proof.Machine
end

