-- ==== Sys2Proof/Machine/Classify.lean ====
section
/-! DEFINITION. The Receive Classifier's shared operations (chapter 2) and the ruling on claims (chapter 3): the stages a
received frame goes through, from the size check to the dispatch of the matched rule. -/

namespace Sys2Proof.Machine

/-! ### Size, VLAN, destination -/

/-- The frame in normalised form with its VLAN id, or `none` when it is malformed (R23, R24). -/
def normalise (frame : Frame) : Option (Frame × Option (BitVec 12)) :=
  if frame.length < 14 ∨ 1522 < frame.length then none
  else if readNat frame 12 2 = 0x8100 then
    if frame.length < 18 then none
    else some (frame.take 12 ++ frame.drop 16, some (BitVec.ofNat 12 (readNat frame 14 2)))
  else some (frame, none)

/-- A destination class (R27). Bit i of a group match set is set when in-use entry i accepts the frame. -/
inductive DestClass where
  | own
  | broadcast
  | group (set : BitVec 8)
  deriving DecidableEq, Repr

/-- A Group List entry accepts a destination address: in use, and the first match-length bytes agree (R27). -/
def GroupEntry.accepts (g : GroupEntry) (dest : LinkAddr) : Bool :=
  g.inUse && decide (dest.toNat / 256 ^ (6 - g.matchLen) = g.addr.toNat / 256 ^ (6 - g.matchLen))

/-- The group match set of a destination address (R27). -/
def groupSet (s : State) (dest : LinkAddr) : BitVec 8 :=
  (List.finRange 8).foldl (fun set i => if s.groups[i].accepts dest then set ||| BitVec.twoPow 8 i.val else set) 0

/-- The destination stage (R27): the class of a normalised frame, `none` when it is not for the station. -/
def destClass (s : State) (frame : Frame) : Option DestClass :=
  let dest := linkAddrAt frame 0
  if dest = s.station.ownAddr then some .own
  else if dest = BitVec.allOnes 48 then some .broadcast
  else if dest.getLsbD 40 then
    let set := groupSet s dest
    if set = 0 then none else some (.group set)
  else none

/-- Load counting (R28). -/
def countLoad (c : DestClass) (s : State) : State :=
  match c with
  | .own => s
  | .broadcast | .group _ => { s with windowCount := satAdd16 s.windowCount 1 }

/-! ### Compare items, patterns, the duty offer -/

/-- A compare item passes (R34): the frame reaches its end, and the bits under the mask agree. -/
def CompareItem.passes (c : CompareItem) (frame : Frame) : Bool :=
  decide (c.offset + c.bytes.length ≤ frame.length) &&
    (c.bytes.zip (frame.drop c.offset)).all fun (vm, b) => (b &&& vm.2) == (vm.1 &&& vm.2)

/-- An ECHO item passes (R113): the frame reaches its end, and the bytes equal the low bytes of the run counter. -/
def EchoItem.passes (e : EchoItem) (counter : BitVec 32) (frame : Frame) : Bool :=
  field? frame e.offset e.width == some (counter.toNat % 256 ^ e.width)

/-- A pattern matches a frame (R113). -/
def Pattern.passes (p : Pattern) (counter : BitVec 32) (frame : Frame) : Bool :=
  p.items.all (fun c => c.passes frame) && p.echo.all (fun e => e.passes counter frame)

/-- A duty is offered frames: it is AWAITING, and it has leave to run (R29: every duty in ATTACHED, the probe in CHECKING). -/
def isOffered (s : State) (d : Fin 12) : Bool :=
  dutyLeave s d && (duty? s d).any fun u => u.run.state == .awaiting

/-- A duty's reply pattern matches the frame. -/
def replyMatches (s : State) (d : Fin 12) (frame : Frame) : Bool :=
  (duty? s d).any fun u => u.profile.reply.any fun p => p.passes u.run.counter frame

/-- A duty's reject pattern matches the frame. -/
def rejectMatches (s : State) (d : Fin 12) (frame : Frame) : Bool :=
  (duty? s d).any fun u => u.profile.reject.any fun p => p.passes u.run.counter frame

/-- The duty offer (R29): the first offered duty in ascending id whose reply or reject pattern matches. -/
def offeredDuty (s : State) (frame : Frame) : Option (Fin 12) :=
  (List.finRange 12).find? fun d => isOffered s d && (replyMatches s d frame || rejectMatches s d frame)

/-- The duty that consumes a frame acts on it (R114): a match of both patterns is a reply. -/
def consumeFrame (d : Fin 12) (frame : Frame) (s : State) : State :=
  if replyMatches s d frame then takeReply d frame s else takeReject d s

/-! ### The rule walk -/

/-- The destination test (R33). -/
def Rule.destPasses (r : Rule) : DestClass → Bool
  | .own => r.destOwn
  | .broadcast => r.destBroadcast
  | .group set => decide (set &&& r.groups ≠ 0)

/-- The ethertype test (R33). -/
def Rule.typePasses (r : Rule) (frame : Frame) : Bool :=
  r.ethertype.all fun t => decide (readNat frame 12 2 = t.toNat)

/-- The field of an address reference, when the frame reaches its end (R35). -/
def AddrRef.value? (a : AddrRef) (frame : Frame) : Option NetAddr :=
  match a.kind with
  | .short => (field? frame a.offset 4).map fun v => .short (BitVec.ofNat 32 v)
  | .long => (field? frame a.offset 16).map fun v => .long (BitVec.ofNat 128 v)

/-- The entry a referenced field matches: in use, of the same kind and value, and not LOST unless the rule is a CLAIM (R35). -/
def matchEntry (s : State) (action : Action) (v : NetAddr) : Option (Fin 16) :=
  (List.finRange 16).find? fun i =>
    (s.entries[i]).any fun e => e.value == v && (e.state != .lost || action == .claim)

/-- The address-reference test (R35): `none` fails; `some none` passes without a matched entry; `some (some i)` passes with
matched entry i. A CLAIM rule also needs its claimant field within the frame. -/
def Rule.refPasses (r : Rule) (s : State) (frame : Frame) : Option (Option (Fin 16)) :=
  match r.addrRef with
  | none => some none
  | some a =>
    if r.action = .claim ∧ frame.length < r.claimantOffset + 6 then none
    else (a.value? frame).bind fun v => (matchEntry s r.action v).map some

/-- A rule's tests (R33 to R36): `none` when one fails, else the matched entry. -/
def Rule.test (r : Rule) (s : State) (c : DestClass) (frame : Frame) : Option (Option (Fin 16)) :=
  if r.inUse && r.destPasses c && r.typePasses frame && r.items.all (fun i => i.passes frame) then r.refPasses s frame
  else none

/-- The rule walk (R36): the first in-use rule, in ascending index, whose tests all pass, with its matched entry. -/
def walkRules (s : State) (c : DestClass) (frame : Frame) : Option (Fin 32 × Option (Fin 16)) :=
  (List.finRange 32).findSome? fun i => ((s.rules[i]).test s c frame).map fun m => (i, m)

/-! ### Actions -/

/-- An ANSWER's matched entry allows an answer: none named, or DEFENDED or CONTESTED in answer mode ANSWER (R38). -/
def mayAnswer (s : State) (m : Option (Fin 16)) : Bool :=
  match m with
  | none => true
  | some i => (s.entries[i]).any fun e => (e.state == .defended || e.state == .contested) && e.mode == .answer

/-- The value of a matched entry. -/
def entryValue (s : State) (m : Option (Fin 16)) : Option NetAddr :=
  m.bind fun i => (s.entries[i]).map fun e => e.value

/-- The answer of a rule, built and offered with a class (R40, R43); a rule without a template sends none. -/
def answerWith (i : Fin 32) (r : Rule) (cls : AnswerClass) (frame : Frame) (m : Option (Fin 16)) (s : State) : State :=
  match r.template with
  | none => s
  | some t => offerAnswer i cls (buildAnswer s t r.patchList frame (entryValue s m)) s

/-- Action ANSWER (R38 to R40). -/
def actAnswer (i : Fin 32) (r : Rule) (frame : Frame) (m : Option (Fin 16)) (s : State) : State :=
  if !mayAnswer s m then s.count fun c => { c with withheld := satAdd32 c.withheld 1 }
  else if r.cls == .ordinary && decide (s.budget ≤ s.spent) then
    s.count fun c => { c with overBudget := satAdd32 c.overBudget 1 }
  else answerWith i r r.cls frame m s

/-- Action HOLD (R41, R179). -/
def actHold (i : Fin 32) (frame : Frame) (s : State) : State :=
  if s.held.length < Config.heldLimit ∧ heldBytes s + frame.length ≤ Config.heldByteLimit then
    { s with held := s.held ++ [{ time := s.elapsed, rule := i, frame := frame }] }
  else s.count fun c => { c with holdRefused := satAdd32 c.holdRefused 1 }

/-- An entry's conflict record after a conflict claim (R54). -/
def AddrEntry.recordClaim (claimant : LinkAddr) (e : AddrEntry) : AddrEntry :=
  { e with conflicts := satInc8 e.conflicts, lastClaimant := some claimant }

/-- An entry giving up its address: LOST, its timers cancelled (R55, R56). -/
def AddrEntry.lose (e : AddrEntry) : AddrEntry :=
  { e with state := .lost, tentativeTimer := none, contestTimer := none }

/-- The ruling on a claim (R53 to R58). The second result calls for a defence answer. -/
def ruleClaim (i : Fin 16) (claimant : LinkAddr) (s : State) : State × Bool :=
  if claimant = s.station.ownAddr then (s, false)
  else
    match s.entries[i] with
    | none => (s, false)
    | some e =>
      let recorded := updEntry i (AddrEntry.recordClaim claimant) s
      match e.state with
      | .defended =>
        (updEntry i (fun a =>
          { a with state := .contested, contestTimer := some (s.station.contestWindow * 1000) }) recorded, true)
      | .contested | .tentative =>
        (addWeight s.station.conflictLane s.station.conflictWeight (updEntry i AddrEntry.lose recorded), false)
      | .lost => (recorded, false)

/-- Action CLAIM (R43): the ruling, then the defence answer with class ESSENTIAL when the ruling calls for one. -/
def actClaim (i : Fin 32) (r : Rule) (frame : Frame) (m : Option (Fin 16)) (s : State) : State :=
  match m with
  | none => s
  | some e =>
    let (ruled, defend) := ruleClaim e (linkAddrAt frame r.claimantOffset) s
    if defend then answerWith i r .essential frame m ruled else ruled

/-- A rule's action (R38 to R43). -/
def act (i : Fin 32) (r : Rule) (frame : Frame) (m : Option (Fin 16)) (s : State) : State :=
  match r.action with
  | .answer => actAnswer i r frame m s
  | .hold => actHold i frame s
  | .note => s
  | .claim => actClaim i r frame m s
  | .drop => s

/-- Dispatch under the matched rule (R37): match count, action, weight. -/
def dispatch (i : Fin 32) (frame : Frame) (m : Option (Fin 16)) (s : State) : State :=
  let r := s.rules[i]
  addWeight r.lane r.weight (act i r frame m (countMatch i s))

/-- A frame matched in HANDBACK (R12): the match is counted and a HOLD acts, nothing else. -/
def dispatchHandback (i : Fin 32) (frame : Frame) (s : State) : State :=
  if s.rules[i].action = .hold then actHold i frame (countMatch i s) else countMatch i s

/-! ### The whole path -/

/-- The stages past the destination stage in PROXY and WAKING (R28 to R37). -/
def classifyActive (c : DestClass) (frame : Frame) (s : State) : State :=
  let loaded := countLoad c s
  match offeredDuty loaded frame with
  | some d => consumeFrame d frame loaded
  | none =>
    if loaded.net != .attached then loaded.count fun t => { t with muted := satAdd32 t.muted 1 }
    else
      match walkRules loaded c frame with
      | none => loaded.count fun t => { t with unmatched := satAdd32 t.unmatched 1 }
      | some (i, m) => dispatch i frame m loaded

/-- The stages past the destination stage in HANDBACK (R12, R22). -/
def classifyHandback (c : DestClass) (frame : Frame) (s : State) : State :=
  match walkRules s c frame with
  | none => s.count fun t => { t with unmatched := satAdd32 t.unmatched 1 }
  | some (i, _) => dispatchHandback i frame s

/-- A received frame's path from the size check on (R23 to R27, R22), the frame being counted as received. -/
def classify (frame : Frame) (s : State) : State :=
  let counted := s.count fun t => { t with received := satAdd32 t.received 1 }
  match normalise frame with
  | none => counted.count fun t => { t with malformed := satAdd32 t.malformed 1 }
  | some (f, vlan) =>
    if vlan ≠ s.station.vlan then counted.count fun t => { t with foreignDest := satAdd32 t.foreignDest 1 }
    else
      match destClass s f with
      | none => counted.count fun t => { t with foreignDest := satAdd32 t.foreignDest 1 }
      | some c => if s.proxy == .handback then classifyHandback c f counted else classifyActive c f counted

/-- A received-frame record (R22): discarded in IDLE and REPORT; else classified, and the queue served (R86). -/
def receiveFrame (frame : Frame) (s : State) : State :=
  if s.active || s.proxy == .handback then startTransmit (classify frame s) else s

end Sys2Proof.Machine
end

