-- ==== Sys2Proof/Machine/Governor.lean ====
section
/-! DEFINITION. The Load Governor (chapter 8): the target, the budget ramp, the storm vote and the end of a load window. -/

namespace Sys2Proof.Machine

/-- Point Pk of the curve; P8 for k of 8 or more. -/
def Curve.point (c : Curve) (k : Nat) : Nat :=
  if h : k < 9 then c.points[k] else c.points[8]

/-- The target for a window count n (R153), rounded down towards minus infinity. -/
def Curve.target (c : Curve) (n : Nat) : Nat :=
  if 256 ≤ n then c.point 8
  else
    let k := n / 32
    let r := n % 32
    ((c.point k : Int) + Int.fdiv (((c.point (k + 1) : Int) - (c.point k : Int)) * (r : Int)) 32).toNat

/-- The budget moved towards the target (R154). -/
def moveBudget (budget target ramp : Nat) : Nat :=
  if target ≤ budget then target else min (budget + ramp) target

/-- The storm vote and statistic for a window count n (R156); the storm weight is delivered when the vote reaches 3 (R157). -/
def takeStormVote (n : Nat) (s : State) : State :=
  if s.curve.stormLevel = 0 then s
  else if n < s.curve.stormLevel then { s with stormVote := 0 }
  else
    let stormy := s.count fun t => { t with stormWindows := satAdd32 t.stormWindows 1 }
    if s.stormVote + 1 < 3 then { stormy with stormVote := s.stormVote + 1 }
    else addWeight s.curve.stormLane s.curve.stormWeight { stormy with stormVote := 0 }

/-- The end of a load window (R151): target and budget, storm vote, then spent and n cleared and the next window started. -/
def endWindow (s : State) : State :=
  let moved := { s with budget := moveBudget s.budget (s.curve.target s.windowCount) s.curve.ramp }
  let voted := takeStormVote s.windowCount moved
  { voted with spent := 0, windowCount := 0, windowTimer := some Config.windowMs }

end Sys2Proof.Machine
end

