-- ==== Sys2Proof/Machine/ProfileCheck.lean ====
section
/-! DEFINITION. The profile check of Assume (R5, R6, R82): nine checks in order, each naming its first offending item. -/

namespace Sys2Proof.Machine

/-- The table an Assume refused REFERENCE names, by its code (R200). -/
inductive CheckTable where
  | station | rule | duty | signature
  deriving DecidableEq, Repr

/-- Codes of the Assume table (R200). -/
def CheckTable.code : CheckTable → Byte
  | .station => 0
  | .rule => 1
  | .duty => 2
  | .signature => 3

/-- The first in-use rule, in ascending index, that fails a test. -/
def firstRule (s : State) (fails : Rule → Bool) : Option (CheckTable × Nat) :=
  ((List.finRange 32).find? fun i => (s.rules[i]).inUse && fails s.rules[i]).map fun i => (.rule, i.val)

/-- The first in-use duty, in ascending id, that fails a test. -/
def firstDuty (s : State) (fails : DutyProfile → Bool) : Option (CheckTable × Nat) :=
  ((List.finRange 12).find? fun d => (duty? s d).any fun u => fails u.profile).map fun d => (.duty, d.val)

/-- The template at an id is loaded. -/
def templateLoaded (s : State) (id : Fin 48) : Bool := (template? s id).isSome

/-- A patch list that is named is loaded, and every entry its FILL_ENTRY patches name by index is in use (check 3). -/
def listMissing (s : State) (list : Option (Fin 32)) : Bool :=
  match list with
  | none => false
  | some id =>
    (s.patchLists[id]).isNone || (patchesOf s list).any fun p =>
      match p with
      | .fillEntry _ (.index i) => (s.entries[i]).isNone
      | _ => false

/-- The bytes a network address of a kind takes. -/
def AddrKind.size : AddrKind → Nat
  | .short => 4
  | .long => 16

/-- Who a patch list is examined for in check 4: a rule with its address reference's kind, or a duty (R6). -/
inductive PairUser where
  | rule (ref : Option AddrKind)
  | duty
  deriving DecidableEq, Repr

/-- A patch keeps its bound within a template of `len` bytes (R82). -/
def patchFits (s : State) (user : PairUser) (len : Nat) : Patch → Bool
  | .copy _ dest count => decide (dest + count ≤ len)
  | .ownLink dest => decide (dest + 6 ≤ len)
  | .fillEntry dest (.index i) =>
    match s.entries[i] with
    | some e => decide (dest + e.value.kind.size ≤ len)
    | none => true
  | .fillEntry dest .matched =>
    match user with
    | .rule (some kind) => decide (dest + kind.size ≤ len)
    | .rule none => false
    | .duty => true
  | .setMasked dest _ _ => decide (dest + 1 ≤ len)
  | .counter dest width => decide (dest + width ≤ len)
  | .length dest _ => decide (dest + 2 ≤ len)
  | .sum16 _ stop store pseudo addrA addrB _ _ =>
    decide (stop ≤ len) && decide (store + 2 ≤ len) &&
      match pseudo with
      | .none => true
      | .short => decide (addrA + 4 ≤ len) && decide (addrB + 4 ≤ len)
      | .long => decide (addrA + 16 ≤ len) && decide (addrB + 16 ≤ len)

/-- A pair of one template and one patch list breaks a bound (R6, R82); without both there is no pair. -/
def pairBroken (s : State) (user : PairUser) (template : Option (Fin 48)) (list : Option (Fin 32)) : Bool :=
  match template.bind (template? s) with
  | none => false
  | some t => (patchesOf s list).any fun p => !patchFits s user t.length p

/-- A list holds a COUNTER patch (check 5). -/
def hasCounter (ps : List Patch) : Bool := ps.any fun p => match p with | .counter _ _ => true | _ => false

/-- A list holds a COPY patch or a FILL_ENTRY of the matched entry (check 6). -/
def needsRequest (ps : List Patch) : Bool :=
  ps.any fun p => match p with | .copy _ _ _ | .fillEntry _ .matched => true | _ => false

/-- A rule names a Group List entry that is not in use (check 9). -/
def groupMissing (s : State) (r : Rule) : Bool :=
  (List.finRange 8).any fun i => r.groups.getLsbD i.val && !(s.groups[i]).inUse

/-- The signature's probe duty is not in use, or has no reply pattern (check 8). -/
def probeMissing (s : State) : Bool :=
  s.signature.any fun g => !(duty? s g.probeDuty).any fun u => u.profile.reply.isSome

/-- The nine checks in order (R5): the first failure, or `none` when the profile passes. -/
def profileCheck (s : State) : Option (CheckTable × Nat) :=
  (if s.station.ownAddr = 0 then some (.station, 0) else none)
  <|> firstRule s (fun r => r.action == .answer && !r.template.any (templateLoaded s))
  <|> firstRule s (fun r => r.template.any (fun t => !templateLoaded s t) || listMissing s r.patchList)
  <|> firstDuty s (fun p => listMissing s p.patchList)
  <|> firstRule s (fun r => pairBroken s (.rule (r.addrRef.map AddrRef.kind)) r.template r.patchList)
  <|> firstDuty s (fun p => pairBroken s .duty (some p.template) p.patchList)
  <|> firstRule s (fun r => hasCounter (patchesOf s r.patchList))
  <|> firstDuty s (fun p => needsRequest (patchesOf s p.patchList))
  <|> firstDuty s (fun p => !templateLoaded s p.template)
  <|> (if probeMissing s then some (.signature, 0) else none)
  <|> firstRule s (groupMissing s)

end Sys2Proof.Machine
end

