-- ==== Sys2Proof/Machine/Report.lean ====
section
/-! DEFINITION. The wake report (chapter 10) and the byte layouts of what the part sends on the Control Link and the Frame
Port (R200). -/

namespace Sys2Proof.Machine

/-! ### Assembly -/

/-- What the report says of an in-use entry (R185). -/
def AddrEntry.report (e : AddrEntry) : EntryReport :=
  { kind := e.value.kind, state := e.state, conflicts := e.conflicts, claimant := e.lastClaimant }

/-- What the report says of an in-use duty (R185). -/
def DutyRun.report (r : DutyRun) : DutyReport where
  state := r.state
  outcome := r.lastOutcome
  runsCompleted := r.runsCompleted
  failedRounds := r.failedRounds
  triesUsed := r.triesUsed
  counter := r.counter
  lastCapture := r.lastCapture
  capturedInterval := r.capturedInterval

/-- The wake report of the state as it stands (R183 to R186). -/
def assembleReport (s : State) : WakeReport where
  proxyAtReclaim := s.reclaimState
  reclaimTime := s.reclaimTime
  completionTime := s.elapsed
  hostInitiated := s.hostInitiated
  reasons := s.reasons
  firstReason := s.firstReason
  resignals := s.resignals
  lanes := s.lanes
  net := s.net
  entries := mapTable (fun e => e.map AddrEntry.report) s.entries
  duties := mapTable (fun slot : DutySlot => slot.duty.map fun u => u.run.report) s.duties
  matchCounts := s.matchCounts
  stats := s.stats
  heldRecords := s.held.length
  heldBytes := heldBytes s

/-! ### Layouts of replies (R200) -/

/-- A presence or flag byte in what the part sends. -/
def flagByte (b : Bool) : Byte := if b then 1 else 0

/-- An entry in the report, 10 bytes. -/
def EntryReport.encode : Option EntryReport → List Byte
  | none => [0, 0xFF, 0] ++ List.replicate 7 0
  | some e =>
    [e.kind.code, e.state.code, BitVec.ofNat 8 e.conflicts, flagByte e.claimant.isSome]
      ++ bytesOfBits 6 (e.claimant.getD 0)

/-- A duty in the report, 22 bytes. -/
def DutyReport.encode : Option DutyReport → List Byte
  | none => [0, 0xFF] ++ List.replicate 20 0
  | some u =>
    [1, u.state.code, u.outcome.code, BitVec.ofNat 8 u.failedRounds, BitVec.ofNat 8 u.triesUsed,
      flagByte u.lastCapture.isSome ||| (flagByte u.capturedInterval.isSome <<< 1)]
      ++ bytesOfNat 4 u.runsCompleted ++ bytesOfBits 4 u.counter
      ++ bytesOfNat 4 (u.lastCapture.getD 0) ++ bytesOfNat 4 (u.capturedInterval.getD 0)

/-- The statistics in the report, 56 bytes. -/
def Stats.encode (t : Stats) : List Byte :=
  [t.received, t.malformed, t.foreignDest, t.muted, t.unmatched, t.withheld, t.overBudget, t.holdRefused,
    t.answersSent, t.answersRefused, t.queueFull, t.essentialDrop, t.linkDrop, t.stormWindows].flatMap (bytesOfNat 4)

/-- The wake report body, 646 bytes. -/
def WakeReport.encode (r : WakeReport) : List Byte :=
  [r.proxyAtReclaim.code, flagByte r.hostInitiated]
    ++ bytesOfNat 4 r.reclaimTime ++ bytesOfNat 4 r.completionTime
    ++ bytesOfBits 2 r.reasons
    ++ [firstReasonCode r.firstReason]
    ++ bytesOfNat 4 (r.firstReason.elim 0 fun f => f.time)
    ++ [BitVec.ofNat 8 r.resignals]
    ++ r.lanes.toList.flatMap (bytesOfNat 2)
    ++ [r.net.code]
    ++ r.entries.toList.flatMap EntryReport.encode
    ++ r.duties.toList.flatMap DutyReport.encode
    ++ r.matchCounts.toList.flatMap (bytesOfNat 4)
    ++ r.stats.encode
    ++ [BitVec.ofNat 8 r.heldRecords] ++ bytesOfNat 2 r.heldBytes

/-- The Query Status body, 29 bytes (R198). -/
def encodeStatus (s : State) : List Byte :=
  [s.proxy.code, s.net.code, s.linkState.code]
    ++ bytesOfNat 4 s.elapsed
    ++ s.lanes.toList.flatMap (bytesOfNat 2)
    ++ [BitVec.ofNat 8 s.budget, BitVec.ofNat 8 s.spent, BitVec.ofNat 8 s.queue.length, BitVec.ofNat 8 s.held.length]
    ++ bytesOfNat 2 (heldBytes s)

/-- The Fetch Held body: the record and the records left (R181, R197). -/
def HeldFrame.encode (h : HeldFrame) (left : Nat) : List Byte :=
  bytesOfNat 4 h.time ++ [BitVec.ofNat 8 h.rule.val, BitVec.ofNat 8 left] ++ bytesOfNat 2 h.frame.length ++ h.frame

/-! ### Messages and records -/

/-- A reply as the host reads it: kind 0x80, the request's kind and tag, status, flags, body length, body. -/
def Reply.encode (r : Reply) : List Byte :=
  [0x80, r.kind, r.tag, r.status.code, flagByte r.clamped ||| (flagByte r.dropped <<< 1)]
    ++ bytesOfNat 2 r.body.length ++ r.body

/-- A message without a body: READY 0x81, HANDBACK_DONE 0x82 or NONE 0x00. -/
def bareMessage (kind : Byte) : List Byte := kind :: List.replicate 6 0

/-- A Frame Port record the part sends, type byte first (R200). -/
def PortRecord.encode : PortRecord → List Byte
  | .owner o => [5, o.code]
  | .frameToSend f => 2 :: bytesOfNat 2 f.length ++ f

end Sys2Proof.Machine
end

