-- ==== Sys2Proof/Machine/LifecycleOps.lean ====
section
/-! DEFINITION. The Proxy Controller's shared operations (chapter 1): resets, clearing the profile, the start and the
stop of the blocks, handback completion. -/

namespace Sys2Proof.Machine

/-! ### Resets -/

/-- A reset (R19): everything as after reset, an OWNER HOST record sent. The waiting commands, the model's logs of what
was sent, and the count of free values are kept (log 10). -/
def resetPart (s : State) : State :=
  { State.reset with
    portOut := s.portOut ++ [.owner .host]
    linkOut := s.linkOut
    freeCount := s.freeCount
    pending := s.pending }

/-! ### Rearm, Detach, Clear Profile -/

/-- A duty's run-time state after Rearm (R15, R105). -/
def DutyRun.rearm (r : DutyRun) : DutyRun :=
  { r.enter .waiting with
    firstRun := true
    triesUsed := 0
    failedRounds := 0
    runsCompleted := 0
    lastCapture := none
    lastOutcome := .none }

/-- An entry after Rearm (R15, R64). -/
def AddrEntry.rearm (e : AddrEntry) : AddrEntry := { e.restore with lastClaimant := none }

/-- What Rearm does (R15): the run-time state of every block returned to what an Assume expects, in state IDLE. -/
def rearmAll (s : State) : State :=
  { s with
    proxy := .idle
    hostInitiated := false
    stats := Stats.zero
    matchCounts := Vector.replicate 32 0
    entries := mapTable (fun e => e.map AddrEntry.rearm) s.entries
    duties := mapTable (fun slot : DutySlot =>
      { slot with duty := slot.duty.map fun u => { u with run := u.run.rearm } }) s.duties
    windowCount := 0
    budget := s.curve.point 0
    spent := 0
    stormVote := 0
    windowTimer := none
    lanes := Vector.replicate 8 0
    reasons := 0
    firstReason := none
    resignals := 0
    decayTimer := none
    settleTimer := none
    patienceTimer := none
    gapTimer := none
    wake := false
    net := .linkDown
    held := []
    report := none }

/-- The profile cleared (R16, R20): tables emptied, settings at their defaults, budget the default P0. -/
def clearProfileTables (s : State) : State :=
  { s with
    station := Station.default
    entries := Vector.replicate 16 none
    groups := Vector.replicate 8 GroupEntry.free
    rules := Vector.replicate 32 Rule.free
    pool := []
    patchLists := Vector.replicate 32 none
    duties := Vector.replicate 12 { probe := false, duty := none }
    signature := none
    curve := Curve.default
    laneSettings := Vector.replicate 8 LaneSetting.default
    budget := 32 }

/-- What Detach and Clear Profile do (R16, R17): everything Rearm does, the network state LINK_DOWN with the rest (R15),
and the profile cleared. The text after R137's table, with a cell of R198, has these two leave the network state as it
stands; both cannot hold, and the rules of the two requests are followed (log 6). -/
def clearAll (s : State) : State := clearProfileTables (rearmAll s)

/-! ### Assume -/

/-- An entry at Assume (R7): its loaded state, and a TENTATIVE one's timer started. -/
def AddrEntry.assume (e : AddrEntry) : AddrEntry :=
  { e.restore with
    tentativeTimer := match e.loaded with | .tentative => some (e.tentativeTime * 1000) | .defended => none }

/-- A duty at Assume (R7, R105): WAITING, the first-delay timer started. -/
def DutyRun.assume (p : DutyProfile) (r : DutyRun) : DutyRun :=
  { r.enter .waiting with
    firstRun := true
    triesUsed := 0
    failedRounds := 0
    runsCompleted := 0
    lastOutcome := .none
    timer := some (p.firstDelay * 1000) }

/-- The network state an Assume chooses (R7). -/
def netAtAssume (l : LinkState) : NetState := if l == .up then .attached else .linkDown

/-- The blocks started (R7), before anything that expires at once. -/
def startBlocks (s : State) : State :=
  { s with
    proxy := .proxy
    elapsed := 0
    hostInitiated := false
    stats := Stats.zero
    matchCounts := Vector.replicate 32 0
    entries := mapTable (fun e => e.map AddrEntry.assume) s.entries
    duties := mapTable (fun slot : DutySlot =>
      { slot with duty := slot.duty.map fun u => { u with run := u.run.assume u.profile } }) s.duties
    windowCount := 0
    budget := s.curve.point 0
    spent := 0
    stormVote := 0
    windowTimer := some Config.windowMs
    lanes := Vector.replicate 8 0
    reasons := 0
    firstReason := none
    resignals := 0
    decayTimer := some (s.station.decayPeriod * 1000)
    settleTimer := some s.station.settleHold
    patienceTimer := none
    gapTimer := none
    wake := false
    net := netAtAssume s.linkState }

/-- The settle hold's expiry (R168). -/
def expireSettle (s : State) : State :=
  if s.active && s.settleTimer.isSome then evaluateAll { s with settleTimer := none } else s

/-- A duty's first-delay or interval expiry (R107): the duty WAITING with its timer running, in PROXY or WAKING. -/
def expireDutyTimer (d : Fin 12) (s : State) : State :=
  match duty? s d with
  | none => s
  | some u =>
    if s.active && u.run.state == .waiting && u.run.timer.isSome then
      beginRun d (updRun d (fun r => { r with timer := none }) s)
    else s

/-- A first delay of 0 s expires within Assume's work (R7, R107). -/
def expireIfZero (s : State) (d : Fin 12) : State :=
  if (duty? s d).any fun u => u.run.timer == some 0 then expireDutyTimer d s else s

/-- An Assume whose profile passes (R7): the blocks started and OWNER PART sent; then a settle hold of 0 ms and first delays
of 0 s expire at once, the duties in ascending id (log 5); then the queue is served (R86). -/
def startProxy (s : State) : State :=
  let started := sendOwner .part (startBlocks s)
  let settled := if s.station.settleHold = 0 then expireSettle started else started
  startTransmit ((List.finRange 12).foldl expireIfZero settled)

/-! ### Reclaim and handback -/

/-- Handback completion (R13): OWNER HOST sent, the report assembled, REPORT entered, HANDBACK_DONE pending. -/
def completeHandback (s : State) : State :=
  let owned := sendOwner .host s
  { owned with report := some (assembleReport owned), proxy := .report, handbackDonePending := true }

/-- Handback completes at the first moment in HANDBACK with nothing in flight (R13). -/
def handbackIfClear (s : State) : State :=
  if s.proxy == .handback && !someInFlight s.queue then completeHandback s else s

/-- What a Reclaim does to a duty (R10, R134): BLOCKED, QUEUED and AWAITING take the last outcome ABANDONED. -/
def DutyRun.abandon (r : DutyRun) : DutyRun :=
  match r.state with
  | .blocked | .queued | .awaiting => { r with lastOutcome := .abandoned }
  | _ => r

/-- A Reclaim carried out (R10): the blocks stopped and HANDBACK entered; handback completes at once when nothing is in
flight. -/
def takePortBack (s : State) : State :=
  let stopped := stopTimers (mapRuns (fun _ _ r => r.abandon) (dropQueued s))
  handbackIfClear
    { stopped with
      proxy := .handback
      wake := false
      hostInitiated := s.proxy == .proxy
      reclaimState := s.proxy
      reclaimTime := s.elapsed }

end Sys2Proof.Machine
end

