-- ==== Sys2Proof/Machine/DutyTimers.lean ====
section
/-! DEFINITION. The meanings of the Duty Scheduler's events: DEFERRED_RESUME, DUTY_TIMER_EXPIRY, REPLY_WINDOW_EXPIRY,
BACKOFF_EXPIRY. Each ends with the queue served (R86). -/

namespace Sys2Proof.Machine

/-- DEFERRED_RESUME (R128): in PROXY and WAKING every DEFERRED duty with leave to run carries out its pending step. -/
def execDeferredResume (s : State) : Host.Outcome State Fault Refusal :=
  .next (if s.active then startTransmit (resumeDeferred s) else s)

/-- DUTY_TIMER_EXPIRY (R107). -/
def execDutyTimerExpiry (d : Fin 12) (s : State) : Host.Outcome State Fault Refusal :=
  .next (startTransmit (expireDutyTimer d s))

/-- A reply-window expiry (R114): the try of an AWAITING duty fails. -/
def expireReplyWindow (d : Fin 12) (s : State) : State :=
  match duty? s d with
  | none => s
  | some u =>
    if s.active && u.run.state == .awaiting && u.run.timer.isSome then
      failTry d (updRun d (fun r => { r with timer := none }) s)
    else s

/-- REPLY_WINDOW_EXPIRY (R114, R115). -/
def execReplyWindowExpiry (d : Fin 12) (s : State) : Host.Outcome State Fault Refusal :=
  .next (startTransmit (expireReplyWindow d s))

/-- A backoff expiry (R117): a new round of the same run, with tries used 0, whose try is made at once; without leave to
run the try makes the duty DEFERRED with pending step TRY (R109, R128), in FOREIGN as in LINK_DOWN, where R146 says
NEW_RUN of every duty (log 25). -/
def expireBackoff (d : Fin 12) (s : State) : State :=
  match duty? s d with
  | none => s
  | some u =>
    if s.active && u.run.state == .backoff && u.run.timer.isSome then
      makeTry d (updRun d (fun r => { r with triesUsed := 0, timer := none }) s)
    else s

/-- BACKOFF_EXPIRY (R117). -/
def execBackoffExpiry (d : Fin 12) (s : State) : Host.Outcome State Fault Refusal :=
  .next (startTransmit (expireBackoff d s))

end Sys2Proof.Machine
end

