-- ==== Sys2Proof/Machine/LinkOps.lean ====
section
/-! DEFINITION. The Control Link's shared operations (chapter 11): how a request message is judged, examined and answered,
and how a READ chooses and delivers a message. -/

namespace Sys2Proof.Machine

/-- What the examination of a request comes to: performed, with the CLAMPED flag and the reply's body; refused, with
nothing changed; or performed with no reply (Reset Part alone, R199). -/
inductive Verdict where
  | performed (s : State) (clamped : Bool) (body : List Byte)
  | refused (st : Status) (body : List Byte)
  | silent (s : State)
  deriving DecidableEq, Repr

/-- A kind of request: its code, the proxy states that accept it, the one size of its body where R200 gives one, the body
of a refusal (R196), and the rest of its examination with its effect. -/
structure RequestKind where
  kind : Byte
  accepts : ProxyState → Bool
  size : Option Nat
  refusalBody : State → List Byte
  perform : List Byte → State → Verdict

/-- The examination of a complete request (R190): a bad length, the proxy state, the one body size, the request's own rule. -/
def examine (k : RequestKind) (m : Request) (s : State) : Verdict :=
  if Config.bodyLimit < m.stated.toNat ∨ m.stated.toNat ≠ m.body.length then .refused .badLength (k.refusalBody s)
  else if !k.accepts s.proxy then .refused .wrongState (k.refusalBody s)
  else if k.size.any (fun n => decide (n ≠ m.body.length)) then .refused .badLength (k.refusalBody s)
  else k.perform m.body s

/-- The state after a verdict: its effect and its reply in the slot, the kind and tag echoed (R190, R195). -/
def settle (kind tag : Byte) (v : Verdict) (s : State) : State :=
  match v with
  | .performed s' clamped body =>
    { s' with reply := some { kind := kind, tag := tag, status := .ok, clamped := clamped, dropped := false, body := body } }
  | .refused st body =>
    { s with reply := some { kind := kind, tag := tag, status := st, clamped := false, dropped := false, body := body } }
  | .silent s' => s'

/-- A request message (R189, R190): cut short it is discarded; while a reply is unread it is dropped and marks that reply
(R191); else it is carried out. -/
def takeRequest (k : RequestKind) (m : Request) (s : State) : State :=
  if !m.complete then s
  else
    match s.reply with
    | some r => { s with reply := some { r with dropped := true } }
    | none => settle k.kind m.tag (examine k m s) s

/-- The refusal body of every request but Put Template: none (R196). -/
def noBody (_ : State) : List Byte := []

/-- Accepted in IDLE alone (11.4). -/
def inIdle (p : ProxyState) : Bool := p == .idle

/-- Accepted in REPORT alone (11.4). -/
def inReport (p : ProxyState) : Bool := p == .report

/-- Accepted in PROXY and WAKING (11.4). -/
def inActive (p : ProxyState) : Bool := p == .proxy || p == .waking

/-- Accepted in every state (11.4). -/
def inEvery (_ : ProxyState) : Bool := true

/-- A verdict from a body read by its own rule: its fault refused, or the effect performed. -/
def verdictOf {α : Type} (r : Except Status α) (refusalBody : List Byte) (f : α → Verdict) : Verdict :=
  match r with
  | .error st => .refused st refusalBody
  | .ok a => f a

/-! ### READ -/

/-- The message a READ chooses (R193): the reply, else READY, else HANDBACK_DONE, else NONE. -/
def waitingMessage (s : State) : List Byte :=
  match s.reply with
  | some r => r.encode
  | none => if s.readyPending then bareMessage 0x81 else if s.handbackDonePending then bareMessage 0x82 else bareMessage 0

/-- The chosen message delivered whole: removed from the slot or the notice set (R193). -/
def removeDelivered (s : State) : State :=
  match s.reply with
  | some _ => { s with reply := none }
  | none => if s.readyPending then { s with readyPending := false } else { s with handbackDonePending := false }

/-- A READ of `clocked` bytes after its code (R188, R193): the message, then zero bytes; the message is removed when every
byte of it was shifted out. -/
def readMessage (clocked : Nat) (s : State) : State :=
  let msg := waitingMessage s
  let shifted := { s with linkOut := s.linkOut ++ [(msg ++ List.replicate (clocked - msg.length) 0).take clocked] }
  if msg.length ≤ clocked then removeDelivered shifted else shifted

end Sys2Proof.Machine
end

