-- ==== Sys2Proof/Machine/Lifecycle.lean ====
section
/-! DEFINITION. The meanings of the lifecycle commands: POWER_ON, RESET_PIN, RESET_PART, CLEAR_PROFILE, ASSUME, RECLAIM,
REARM, DETACH, HANDBACK_COMPLETE, ELAPSED_TIME_ADVANCE. -/

namespace Sys2Proof.Machine

/-- POWER_ON (R19). -/
def execPowerOn (s : State) : Host.Outcome State Fault Refusal :=
  .next (resetPart s)

/-- RESET_PIN (R19). -/
def execResetPin (s : State) : Host.Outcome State Fault Refusal :=
  .next (resetPart s)

/-- RESET_PART (R199): the reset, and no reply of its own. -/
def execResetPart (m : Request) (s : State) : Host.Outcome State Fault Refusal :=
  .next (takeRequest
    { kind := 0x13
      accepts := inEvery
      size := some 0
      refusalBody := noBody
      perform := fun _ s => .silent (resetPart s) }
    m s)

/-- CLEAR_PROFILE (R17). -/
def execClearProfile (m : Request) (s : State) : Host.Outcome State Fault Refusal :=
  .next (takeRequest
    { kind := 0x0B
      accepts := inIdle
      size := some 0
      refusalBody := noBody
      perform := fun _ s => .performed (clearAll s) false [] }
    m s)

/-- ASSUME (R5, R7): refused REFERENCE with the table and index of the first offending item, or carried out with the
network state chosen as the reply's body. -/
def execAssume (m : Request) (s : State) : Host.Outcome State Fault Refusal :=
  .next (takeRequest
    { kind := 0x0C
      accepts := inIdle
      size := some 0
      refusalBody := noBody
      perform := fun _ s =>
        match profileCheck s with
        | some (table, index) => .refused .reference [table.code, BitVec.ofNat 8 index]
        | none => .performed (startProxy s) false [(netAtAssume s.linkState).code] }
    m s)

/-- RECLAIM (R10). -/
def execReclaim (m : Request) (s : State) : Host.Outcome State Fault Refusal :=
  .next (takeRequest
    { kind := 0x0D
      accepts := inActive
      size := some 0
      refusalBody := noBody
      perform := fun _ s => .performed (takePortBack s) false [] }
    m s)

/-- REARM (R15). -/
def execRearm (m : Request) (s : State) : Host.Outcome State Fault Refusal :=
  .next (takeRequest
    { kind := 0x10
      accepts := inReport
      size := some 0
      refusalBody := noBody
      perform := fun _ s => .performed (rearmAll s) false [] }
    m s)

/-- DETACH (R16). -/
def execDetach (m : Request) (s : State) : Host.Outcome State Fault Refusal :=
  .next (takeRequest
    { kind := 0x11
      accepts := inReport
      size := some 0
      refusalBody := noBody
      perform := fun _ s => .performed (clearAll s) false [] }
    m s)

/-- HANDBACK_COMPLETE (R13): in HANDBACK with nothing in flight. -/
def execHandbackComplete (s : State) : Host.Outcome State Fault Refusal :=
  .next (handbackIfClear s)

/-- ELAPSED_TIME_ADVANCE (R2): one millisecond of elapsed time in PROXY, WAKING and HANDBACK; running timers have one less
to run (log 2). -/
def execElapsedTimeAdvance (s : State) : Host.Outcome State Fault Refusal :=
  .next
    (if s.active then tickTimers { s with elapsed := satAdd32 s.elapsed 1 }
     else if s.proxy == .handback then { s with elapsed := satAdd32 s.elapsed 1 }
     else s)

end Sys2Proof.Machine
end

