-- ==== Sys2Proof/Machine/Link.lean ====
section
/-! DEFINITION. The meanings of the Control Link's commands that load no profile: OTHER_TRANSACTION, CUT_SHORT_MESSAGE,
UNKNOWN_KIND_REQUEST, READ, READ_REPORT, FETCH_HELD, QUERY_STATUS. -/

namespace Sys2Proof.Machine

/-- OTHER_TRANSACTION (R188): nothing. -/
def execOtherTransaction (_bytes : List Byte) (s : State) : Host.Outcome State Fault Refusal :=
  .next s

/-- CUT_SHORT_MESSAGE (R189): discarded, with no reply. -/
def execCutShortMessage (_bytes : List Byte) (s : State) : Host.Outcome State Fault Refusal :=
  .next s

/-- UNKNOWN_KIND_REQUEST (R190, R196): refused BAD_KIND with the kind echoed. -/
def execUnknownKindRequest (kind : Byte) (m : Request) (s : State) : Host.Outcome State Fault Refusal :=
  .next (takeRequest
    { kind := kind, accepts := inEvery, size := none, refusalBody := noBody, perform := fun _ _ => .refused .badKind [] }
    m s)

/-- READ (R193). -/
def execRead (clocked : Nat) (s : State) : Host.Outcome State Fault Refusal :=
  .next (readMessage clocked s)

/-- READ_REPORT (R183, R197). In REPORT a report is always held (R187); a state without one would answer an empty body
(log 18). -/
def execReadReport (m : Request) (s : State) : Host.Outcome State Fault Refusal :=
  .next (takeRequest
    { kind := 0x0E
      accepts := inReport
      size := some 0
      refusalBody := noBody
      perform := fun _ s => .performed s false (s.report.elim [] WakeReport.encode) }
    m s)

/-- FETCH_HELD (R181). -/
def execFetchHeld (m : Request) (s : State) : Host.Outcome State Fault Refusal :=
  .next (takeRequest
    { kind := 0x0F
      accepts := inReport
      size := some 0
      refusalBody := noBody
      perform := fun _ s =>
        match s.held with
        | [] => .refused .empty []
        | h :: rest => .performed { s with held := rest } false (h.encode rest.length) }
    m s)

/-- QUERY_STATUS (R198). -/
def execQueryStatus (m : Request) (s : State) : Host.Outcome State Fault Refusal :=
  .next (takeRequest
    { kind := 0x12
      accepts := inEvery
      size := some 0
      refusalBody := noBody
      perform := fun _ s => .performed s false (encodeStatus s) }
    m s)

end Sys2Proof.Machine
end

