-- ==== Sys2Proof/Machine/Port.lean ====
section
/-! DEFINITION. The meanings of the Frame Port's records and of the Transmit Queue's own work: RECEIVED_FRAME,
TRANSMIT_RESULT, BLOCKED_DUTY_ADMIT, FRAME_TO_SEND, LINK_STATE, BAD_RECORD. -/

namespace Sys2Proof.Machine

/-- RECEIVED_FRAME (R22, R97). -/
def execReceivedFrame (frame : Frame) (s : State) : Host.Outcome State Fault Refusal :=
  .next (receiveFrame frame s)

/-- An answer's result counted (R91, R95). -/
def countResult (result : TxResult) (s : State) : State :=
  match result with
  | .sent => s.count fun c => { c with answersSent := satAdd32 c.answersSent 1 }
  | .refused => s.count fun c => { c with answersRefused := satAdd32 c.answersRefused 1 }

/-- A completed entry's result handed to its origin (R91): an answer is counted; a duty acts in PROXY and WAKING, and keeps
its state in HANDBACK (R13, R134). -/
def handResult (origin : Origin) (result : TxResult) (s : State) : State :=
  match origin with
  | .rule _ => countResult result s
  | .duty d => if s.active then dutyResult d result s else s

/-- A transmit result (R91, R92): the entry in flight completes, its origin acts, then the arbiter and the next frame, or the
end of handback. -/
def completeTransmit (result : TxResult) (s : State) : State :=
  if s.active || s.proxy == .handback then
    match takeInFlight s.queue with
    | none => s
    | some (e, rest) =>
      let handed := handResult e.origin result { s with queue := rest }
      if s.proxy == .handback then handbackIfClear handed else startTransmit (arbiter handed)
  else s

/-- TRANSMIT_RESULT (R91, R92, R99). -/
def execTransmitResult (result : TxResult) (s : State) : Host.Outcome State Fault Refusal :=
  .next (completeTransmit result s)

/-- BLOCKED_DUTY_ADMIT (R90): in PROXY and WAKING one free place is offered to the BLOCKED duties. -/
def execBlockedDutyAdmit (s : State) : Host.Outcome State Fault Refusal :=
  .next (if s.active then startTransmit (offerPlace s) else s)

/-- FRAME_TO_SEND (R86, R98). -/
def execFrameToSend (s : State) : Host.Outcome State Fault Refusal :=
  .next (startTransmit s)

/-- The link state a link-state record carries. -/
def linkOfRecord : LinkRecord → LinkState
  | .up => .up
  | .down => .down

/-- A link change passed to the Network Check (R96, R138, R139), then the queue served (R86). -/
def linkChange (l : LinkRecord) (s : State) : State :=
  match l with
  | .up => startTransmit (linkUp s)
  | .down => startTransmit (linkDown s)

/-- A link-state record taken (R96, R100): one that repeats the link state sets nothing; a change is passed on in PROXY and
WAKING. -/
def takeLinkState (l : LinkRecord) (s : State) : State :=
  if s.linkState = linkOfRecord l then s
  else
    let set := { s with linkState := linkOfRecord l }
    if s.active then linkChange l set else set

/-- LINK_STATE (R100). -/
def execLinkState (l : LinkRecord) (s : State) : Host.Outcome State Fault Refusal :=
  .next (takeLinkState l s)

/-- BAD_RECORD (R201): ignored. -/
def execBadRecord (_bytes : List Byte) (s : State) : Host.Outcome State Fault Refusal :=
  .next s

end Sys2Proof.Machine
end

