-- ==== Sys2Proof/Machine/Operands.lean ====
section
/-! DEFINITION. The operand forms of the requests: their bodies, laid out as R200 gives, read into the fields of the profile,
with the clamping of R195 and the examination order of each request's own rule. -/

namespace Sys2Proof.Machine

/-! ### Clamping (R195) -/

/-- A numeric field as carried, with its range. -/
structure Ranged where
  raw : Nat
  lo : Nat
  hi : Nat

/-- The value in range: the field clamped to the nearer end. -/
def Ranged.val (r : Ranged) : Nat := if r.raw < r.lo then r.lo else if r.hi < r.raw then r.hi else r.raw

/-- The field lies outside its range. -/
def Ranged.out (r : Ranged) : Bool := decide (r.raw < r.lo) || decide (r.hi < r.raw)

/-- A lane field clamped into 0..7. -/
def laneOf (raw : Nat) : Fin 8 := ⟨min raw 7, by omega⟩

/-- Some field of a list lies outside its range. -/
def anyOut (rs : List Ranged) : Bool := rs.any Ranged.out

/-- An offset field at `off` of a body: 0..1,513 (R32, R68, R103). -/
def offsetField (b : List Byte) (off : Nat) : Ranged := ⟨readNat b off 2, 0, Config.maxOffset⟩

/-! ### Set Station (R4, 22 bytes) -/

/-- The station record a Set Station body carries, and whether a field was clamped. -/
def parseStation (b : List Byte) : Station × Bool :=
  let vlan : Ranged := ⟨readNat b 7 2, 1, 4094⟩
  let settle : Ranged := ⟨readNat b 9 2, 0, 5000⟩
  let contest : Ranged := ⟨readNat b 11 1, 1, 60⟩
  let lane : Ranged := ⟨readNat b 12 1, 0, 7⟩
  let patience : Ranged := ⟨readNat b 15 2, 5, 300⟩
  let decay : Ranged := ⟨readNat b 17 1, 1, 60⟩
  let total : Ranged := ⟨readNat b 18 4, 0, 524280⟩
  ({ ownAddr := linkAddrAt b 0
     vlan := if flagAt b 6 then some (BitVec.ofNat 12 vlan.val) else none
     settleHold := settle.val
     contestWindow := contest.val
     conflictLane := laneOf lane.raw
     conflictWeight := readNat b 13 2
     wakePatience := patience.val
     decayPeriod := decay.val
     totalThreshold := total.val },
   (flagAt b 6 && vlan.out) || anyOut [settle, contest, lane, patience, decay, total])

/-! ### Put Address (R47) -/

/-- A fault-order step: the first status, or the rest of the examination. -/
def refuseIf {α : Type} (bad : Bool) (st : Status) (rest : Except Status α) : Except Status α :=
  if bad then .error st else rest

/-- An index field at `off` that names no place of a table of `n`; past the body's end it is not examined (R200). -/
def badIndexAt (b : List Byte) (off n : Nat) : Bool := (field? b off 1).any fun v => decide (n ≤ v)

/-- A code field at `off` that is none of its named values; past the body's end it is not examined (R200). -/
def badCodeAt {α : Type} (b : List Byte) (off : Nat) (codes : Nat → Option α) : Bool :=
  (field? b off 1).any fun v => (codes v).isNone

/-- The kind codes of Put Address: NONE 0, SHORT 1, LONG 2. -/
def entryKindOfCode : Nat → Option (Option AddrKind)
  | 0 => some none
  | v => (refKindOfCode v).map some

/-- A Put Address body, up to the duplicate check: the index, and the new entry (`none` frees it) with whether the
tentative time was clamped. -/
def parseAddress (b : List Byte) : Except Status (Fin 16 × Option AddrEntry × Bool) :=
  refuseIf (badIndexAt b 0 16) .badIndex <|
  match (field? b 1 1).bind entryKindOfCode with
  | none => if 2 ≤ b.length then .error .badKind else .error .badLength
  | some none => .ok (Fin.ofNat 16 (readNat b 0 1), none, false)
  | some (some kind) =>
    refuseIf (badCodeAt b 2 loadedOfCode || badCodeAt b 3 modeOfCode) .badKind <|
    let size := match kind with | .short => 4 | .long => 16
    if b.length ≠ 5 + size then .error .badLength
    else
      match loadedOfCode (readNat b 2 1), modeOfCode (readNat b 3 1) with
      | some loaded, some mode =>
        let time : Ranged := ⟨readNat b 4 1, 1, 10⟩
        let entry : AddrEntry := {
          value := match kind with
            | .short => .short (BitVec.ofNat 32 (readNat b 5 4))
            | .long => .long (BitVec.ofNat 128 (readNat b 5 16))
          loaded := loaded
          mode := mode
          tentativeTime := time.val
          state := match loaded with | .tentative => .tentative | .defended => .defended
          conflicts := 0
          lastClaimant := none
          tentativeTimer := none
          contestTimer := none }
        .ok (Fin.ofNat 16 (readNat b 0 1), some entry, time.out)
      | _, _ => .error .badKind

/-! ### Put Group (R26, 9 bytes) -/

/-- A Put Group body past its index check. -/
def parseGroup (b : List Byte) : Except Status (Fin 8 × GroupEntry × Bool) :=
  refuseIf (badIndexAt b 0 8) .badIndex <|
  let len : Ranged := ⟨readNat b 8 1, 1, 6⟩
  .ok (Fin.ofNat 8 (readNat b 0 1), { inUse := flagAt b 1, addr := linkAddrAt b 2, matchLen := len.val }, len.out)

/-! ### Compare items (R32, R104, R200) -/

/-- A compare item as carried: offset, length byte, and as many value and mask bytes as it says. -/
structure RawItem where
  offset : Nat
  len : Nat
  value : List Byte
  mask : List Byte

/-- `n` compare items from the front of a byte list, and the bytes after them; `none` where the bytes run out. -/
def takeItems : Nat → List Byte → Option (List RawItem × List Byte)
  | 0, b => some ([], b)
  | n + 1, b =>
    if b.length < 3 then none
    else
      let len := readNat b 2 1
      if b.length < 3 + 2 * len then none
      else
        (takeItems n (b.drop (3 + 2 * len))).map fun (items, rest) =>
          ({ offset := readNat b 0 2, len := len, value := slice b 3 len, mask := slice b (3 + len) len } :: items, rest)

/-- A carried item lies outside its ranges: offset 0..1,513, length 1..8. -/
def RawItem.out (i : RawItem) : Bool := anyOut [⟨i.offset, 0, Config.maxOffset⟩, ⟨i.len, 1, 8⟩]

/-- Items clamped and stored. A length above 8 keeps the first eight value and mask bytes; a length of 0 becomes 1, whose
value and mask byte no rule gives: two free values (log 7). The number is the count of free values drawn. -/
def clampItems : Nat → List RawItem → List CompareItem × Nat
  | seed, [] => ([], seed)
  | seed, i :: is =>
    let off : Ranged := ⟨i.offset, 0, Config.maxOffset⟩
    if i.len = 0 then
      let (rest, next) := clampItems (seed + 2) is
      ({ offset := off.val, bytes := [(Config.freeByte seed, Config.freeByte (seed + 1))] } :: rest, next)
    else
      let (rest, next) := clampItems seed is
      ({ offset := off.val, bytes := (i.value.zip i.mask).take 8 } :: rest, next)

/-! ### Put Rule (R32) -/

/-- An optional id at `off + 1` with its presence byte at `off`: out of its table. -/
def badOptIndexAt (b : List Byte) (off n : Nat) : Bool :=
  (field? b off 1).any (fun v => decide (v ≠ 0)) && badIndexAt b (off + 1) n

/-- A Put Rule body: the index, the rule, whether a field was clamped, and the count of free values drawn. -/
def parseRule (seed : Nat) (b : List Byte) : Except Status (Fin 32 × Rule × Bool × Nat) :=
  refuseIf (badIndexAt b 0 32 || badOptIndexAt b 15 48 || badOptIndexAt b 17 32) .badIndex <|
  refuseIf (badCodeAt b 11 actionOfCode || badCodeAt b 14 classOfCode
    || ((field? b 7 1).any (fun v => decide (v ≠ 0)) && badCodeAt b 10 refKindOfCode)) .badKind <|
  refuseIf (decide (b.length < 23) || decide (4 < readNat b 22 1)) .badLength <|
  match takeItems (readNat b 22 1) (b.drop 23) with
  | some (items, []) =>
    match actionOfCode (readNat b 11 1), classOfCode (readNat b 14 1) with
    | some action, some cls =>
      refuseIf (action == .claim && !flagAt b 7) .badValue <|
      let lane : Ranged := ⟨readNat b 19 1, 0, 7⟩
      let (stored, next) := clampItems seed items
      .ok (Fin.ofNat 32 (readNat b 0 1),
        { inUse := flagAt b 1
          destOwn := (readNat b 2 1).testBit 0
          destBroadcast := (readNat b 2 1).testBit 1
          groups := BitVec.ofNat 8 (readNat b 3 1)
          ethertype := if flagAt b 4 then some (BitVec.ofNat 16 (readNat b 5 2)) else none
          items := stored
          addrRef := if flagAt b 7 then
              (refKindOfCode (readNat b 10 1)).map fun kind => { offset := (offsetField b 8).val, kind := kind }
            else none
          action := action
          claimantOffset := (offsetField b 12).val
          cls := cls
          template := if flagAt b 15 then some (Fin.ofNat 48 (readNat b 16 1)) else none
          patchList := if flagAt b 17 then some (Fin.ofNat 32 (readNat b 18 1)) else none
          lane := laneOf lane.raw
          weight := readNat b 20 2 },
        (flagAt b 7 && (offsetField b 8).out) || anyOut [offsetField b 12, lane] || items.any RawItem.out,
        next)
    | _, _ => .error .badKind
  | _ => .error .badLength

/-! ### Put Template (R66) -/

/-- A Put Template body up to its length check: the id and the template's bytes. -/
def parseTemplate (b : List Byte) : Except Status (Fin 48 × List Byte) :=
  refuseIf (badIndexAt b 0 48) .badIndex <|
  refuseIf (decide (b.length < 15) || decide (1515 < b.length)) .badLength <|
  .ok (Fin.ofNat 48 (readNat b 0 1), b.drop 1)

/-! ### Put Patch List (R68, R69) -/

/-- The faults of one patch record's codes: kind, pseudo-header kind, entry form. -/
def patchBadKind (p : List Byte) : Bool :=
  match readNat p 0 1 with
  | 1 | 2 | 4 | 5 | 6 => false
  | 3 => decide (1 < readNat p 3 1)
  | 7 => (pseudoOfCode (readNat p 7 1)).isNone
  | _ => true

/-- A FILL_ENTRY by index names no place of the Address Table. -/
def patchBadIndex (p : List Byte) : Bool :=
  decide (readNat p 0 1 = 3) && decide (readNat p 3 1 = 0) && decide (16 ≤ readNat p 4 1)

/-- A SUM16's range bound at `off`: 0..1,514. -/
def rangeField (p : List Byte) (off : Nat) : Ranged := ⟨readNat p off 2, 0, 1514⟩

/-- A SUM16 whose range start, after clamping, exceeds its range end. -/
def patchBadValue (p : List Byte) : Bool :=
  decide (readNat p 0 1 = 7) && decide ((rangeField p 3).val < (rangeField p 1).val)

/-- A patch record read, with whether an operand was clamped. -/
def parsePatch (p : List Byte) : Patch × Bool :=
  match readNat p 0 1 with
  | 1 =>
    let count : Ranged := ⟨readNat p 5 1, 1, 64⟩
    (.copy (offsetField p 1).val (offsetField p 3).val count.val, anyOut [offsetField p 1, offsetField p 3, count])
  | 2 => (.ownLink (offsetField p 1).val, (offsetField p 1).out)
  | 3 =>
    (.fillEntry (offsetField p 1).val
      (if readNat p 3 1 = 0 then .index (Fin.ofNat 16 (readNat p 4 1)) else .matched), (offsetField p 1).out)
  | 4 =>
    (.setMasked (offsetField p 1).val (BitVec.ofNat 8 (readNat p 3 1)) (BitVec.ofNat 8 (readNat p 4 1)),
      (offsetField p 1).out)
  | 5 =>
    let width : Ranged := ⟨readNat p 3 1, 1, 4⟩
    (.counter (offsetField p 1).val width.val, anyOut [offsetField p 1, width])
  | 6 => (.length (offsetField p 1).val (rangeField p 3).val, anyOut [offsetField p 1, rangeField p 3])
  | _ =>
    (.sum16 (rangeField p 1).val (rangeField p 3).val (offsetField p 5).val ((pseudoOfCode (readNat p 7 1)).getD .none)
      (offsetField p 8).val (offsetField p 10).val (BitVec.ofNat 8 (readNat p 12 1)) (flagAt p 13),
      anyOut [rangeField p 1, rangeField p 3, offsetField p 5, offsetField p 8, offsetField p 10])

/-- A Put Patch List body: the id, the list (`none` unloads it), and whether an operand was clamped. -/
def parsePatchList (b : List Byte) : Except Status (Fin 32 × Option (List Patch) × Bool) :=
  refuseIf (badIndexAt b 0 32) .badIndex <|
  let id := Fin.ofNat 32 (readNat b 0 1)
  if b.length < 2 then .error .badLength
  else if !flagAt b 1 then .ok (id, none, false)
  else
    let count := readNat b 2 1
    let records := (List.range count).map fun i => slice b (3 + 16 * i) 16
    refuseIf (decide (b.length < 3) || decide (8 < count) || decide (b.length ≠ 3 + 16 * count)) .badLength <|
    refuseIf (records.any patchBadKind) .badKind <|
    refuseIf (records.any patchBadIndex) .badIndex <|
    refuseIf (records.any patchBadValue) .badValue <|
    .ok (id, some (records.map fun p => (parsePatch p).1), records.any fun p => (parsePatch p).2)

/-! ### Put Duty (R103, R104) -/

/-- The codes of the failure actions (R200). -/
def failureOfCode : Nat → Option Nat
  | 0 => some 0
  | 1 => some 1
  | 2 => some 2
  | _ => none

/-- The codes of the capture targets (R200). -/
def targetOfCode : Nat → Option Nat
  | 0 => some 0
  | 1 => some 1
  | _ => none

/-- The number of items the pattern whose head stands at `off` carries: an absent pattern carries none (R200). -/
def patternCount (b : List Byte) (off : Nat) : Nat := if flagAt b off then readNat b (off + 1) 1 else 0

/-- The pattern whose head stands at `off`, with its stored items. -/
def patternAt (b : List Byte) (off : Nat) (items : List CompareItem) : Option Pattern :=
  if flagAt b off then
    some {
      items := items
      echo := if flagAt b (off + 2) then
          let width : Ranged := ⟨readNat b (off + 5) 1, 1, 4⟩
          some { offset := (offsetField b (off + 3)).val, width := width.val }
        else none }
  else none

/-- A field of the ECHO item of the pattern whose head stands at `off` is out of range. -/
def echoOut (b : List Byte) (off : Nat) : Bool :=
  flagAt b off && flagAt b (off + 2) && anyOut [offsetField b (off + 3), ⟨readNat b (off + 5) 1, 1, 4⟩]

/-- A duration field of a duty at `off`. -/
def delayField (b : List Byte) (off lo : Nat) : Ranged := ⟨readNat b off 4, lo, Config.maxDelay⟩

/-- The capture's numerator field. -/
def numeratorField (b : List Byte) : Ranged := ⟨readNat b 32 2, 1, 256⟩

/-- The capture a Put Duty body carries. -/
def captureOf (b : List Byte) : Option Capture :=
  if flagAt b 27 then
    some {
      offset := (offsetField b 28).val
      width := readNat b 30 1
      target := if readNat b 31 1 = 0 then
          .interval (numeratorField b).val (delayField b 34 1).val (delayField b 38 1).val
        else .counter }
  else none

/-- A field of the carried capture is out of range; the INTERVAL fields are read for INTERVAL alone (R200). -/
def captureOut (b : List Byte) : Bool :=
  flagAt b 27 && ((offsetField b 28).out
    || (decide (readNat b 31 1 = 0) && anyOut [numeratorField b, delayField b 34 1, delayField b 38 1]))

/-- Fault 5 of R104: a reject pattern or a capture without a reply pattern, a capture width other than 1, 2 or 4, a min
interval above the max interval after clamping. -/
def dutyBadValue (b : List Byte) : Bool :=
  (!flagAt b 47 && (flagAt b 53 || flagAt b 27))
    || (flagAt b 27
      && (!(decide (readNat b 30 1 = 1) || decide (readNat b 30 1 = 2) || decide (readNat b 30 1 = 4))
        || (decide (readNat b 31 1 = 0) && decide ((delayField b 38 1).val < (delayField b 34 1).val))))

/-- The failure action a Put Duty body carries; its lane and weight are read for WAKE alone (R200). -/
def failureOf (b : List Byte) : FailureAction :=
  match readNat b 23 1 with
  | 0 => .wake (laneOf (readNat b 24 1)) (readNat b 25 2)
  | 1 => .suspend
  | _ => .continueRuns

/-- The profile a Put Duty body of 59 bytes and more carries, with its patterns' stored items. -/
def dutyProfileOf (b : List Byte) (reply reject : List CompareItem) : DutyProfile where
  template := Fin.ofNat 48 (readNat b 2 1)
  patchList := if flagAt b 3 then some (Fin.ofNat 32 (readNat b 4 1)) else none
  firstDelay := (delayField b 5 0).val
  interval := (delayField b 9 1).val
  repeatCount := readNat b 13 2
  reply := patternAt b 47 reply
  reject := patternAt b 53 reject
  replyWindow := Ranged.val ⟨readNat b 15 2, 10, 30000⟩
  startupTries := Ranged.val ⟨readNat b 17 1, 1, 4⟩
  runTries := Ranged.val ⟨readNat b 18 1, 1, 4⟩
  backoffBase := Ranged.val ⟨readNat b 19 2, 1, 3600⟩
  backoffMul := laneOf (readNat b 21 1)
  roundsLimit := Ranged.val ⟨readNat b 22 1, 0, 7⟩
  failure := failureOf b
  capture := captureOf b
  counterInit := BitVec.ofNat 32 (readNat b 42 4)
  counterInc := BitVec.ofNat 8 (readNat b 46 1)

/-- A numeric field of a Put Duty body, its compare items apart, is out of range. -/
def dutyOut (b : List Byte) : Bool :=
  anyOut [delayField b 5 0, delayField b 9 1, ⟨readNat b 15 2, 10, 30000⟩, ⟨readNat b 17 1, 1, 4⟩,
      ⟨readNat b 18 1, 1, 4⟩, ⟨readNat b 19 2, 1, 3600⟩, ⟨readNat b 21 1, 0, 7⟩, ⟨readNat b 22 1, 0, 7⟩]
    || (decide (readNat b 23 1 = 0) && Ranged.out ⟨readNat b 24 1, 0, 7⟩)
    || captureOut b || echoOut b 47 || echoOut b 53

/-- The run-time state after Put Duty (R105); tries allowed has no value in R105 and is the startup tries (log 11). -/
def DutyProfile.freshRun (p : DutyProfile) : DutyRun where
  state := .waiting
  pending := none
  void := false
  firstRun := true
  triesAllowed := p.startupTries
  triesUsed := 0
  failedRounds := 0
  runsCompleted := 0
  counter := p.counterInit
  capturedInterval := none
  lastCapture := none
  lastOutcome := .none
  timer := none

/-- A Put Duty body: the id, the duty (`none` frees it), whether a field was clamped, and the count of free values drawn. -/
def parseDuty (seed : Nat) (b : List Byte) : Except Status (Fin 12 × Option Duty × Bool × Nat) :=
  refuseIf (badIndexAt b 0 12) .badIndex <|
  let id := Fin.ofNat 12 (readNat b 0 1)
  if b.length < 2 then .error .badLength
  else if !flagAt b 1 then .ok (id, none, false, seed)
  else
    refuseIf (badIndexAt b 2 48 || badOptIndexAt b 3 32) .badIndex <|
    refuseIf (badCodeAt b 23 failureOfCode
      || ((field? b 27 1).any (fun v => decide (v ≠ 0)) && badCodeAt b 31 targetOfCode)) .badKind <|
    refuseIf (decide (b.length < 59) || decide (4 < patternCount b 47) || decide (4 < patternCount b 53)) .badLength <|
    match takeItems (patternCount b 47) (b.drop 59) with
    | none => .error .badLength
    | some (replyItems, rest) =>
      match takeItems (patternCount b 53) rest with
      | some (rejectItems, []) =>
        refuseIf (dutyBadValue b) .badValue <|
        let (reply, mid) := clampItems seed replyItems
        let (reject, next) := clampItems mid rejectItems
        let p := dutyProfileOf b reply reject
        .ok (id, some { profile := p, run := p.freshRun },
          dutyOut b || replyItems.any RawItem.out || rejectItems.any RawItem.out, next)
      | _ => .error .badLength

/-! ### Set Lanes (R163, 48 bytes), Set Curve (R150, 15 bytes), Set Signature (R136, 11 bytes) -/

/-- The record of lane i at offset 6 × i. -/
def parseLane (b : List Byte) (i : Nat) : LaneSetting × Bool :=
  let shift : Ranged := ⟨readNat b (6 * i + 3) 1, 0, 16⟩
  ({ threshold := readNat b (6 * i) 2
     mode := (decayModeOfCode (readNat b (6 * i + 2) 1)).getD .shift
     shift := shift.val
     step := readNat b (6 * i + 4) 2 },
   shift.out)

/-- A Set Lanes body of eight records. -/
def parseLanes (b : List Byte) : Except Status (Vector LaneSetting 8 × Bool) :=
  refuseIf ((List.range 8).any fun i => (decayModeOfCode (readNat b (6 * i + 2) 1)).isNone) .badKind <|
  .ok (Vector.ofFn fun i : Fin 8 => (parseLane b i.val).1, (List.range 8).any fun i => (parseLane b i).2)

/-- A Set Curve body. -/
def parseCurve (b : List Byte) : Curve × Bool :=
  let ramp : Ranged := ⟨readNat b 9 1, 1, 255⟩
  let level : Ranged := ⟨readNat b 10 2, 0, 1023⟩
  let lane : Ranged := ⟨readNat b 12 1, 0, 7⟩
  ({ points := Vector.ofFn fun i : Fin 9 => readNat b i.val 1
     ramp := ramp.val
     stormLevel := level.val
     stormLane := laneOf lane.raw
     stormWeight := readNat b 13 2 },
   anyOut [ramp, level, lane])

/-- A Set Signature body. -/
def parseSignature (b : List Byte) : Except Status (Option Signature × Bool) :=
  if !flagAt b 0 then .ok (none, false)
  else
    refuseIf (badIndexAt b 7 12) .badIndex <|
    let lane : Ranged := ⟨readNat b 8 1, 0, 7⟩
    .ok (some {
        gateway := linkAddrAt b 1
        probeDuty := Fin.ofNat 12 (readNat b 7 1)
        lane := laneOf lane.raw
        weight := readNat b 9 2 },
      lane.out)

end Sys2Proof.Machine
end

