-- ==== Sys2Proof/Machine/Profile.lean ====
section
/-! DEFINITION. The meanings of the requests that load the profile: SET_STATION, PUT_ADDRESS, PUT_GROUP, PUT_RULE,
PUT_TEMPLATE, PUT_PATCH_LIST, PUT_DUTY, SET_LANES, SET_CURVE, SET_SIGNATURE. -/

namespace Sys2Proof.Machine

/-- SET_STATION (R4). -/
def execSetStation (m : Request) (s : State) : Host.Outcome State Fault Refusal :=
  .next (takeRequest
    { kind := 0x01
      accepts := inIdle
      size := some 22
      refusalBody := noBody
      perform := fun b s => .performed { s with station := (parseStation b).1 } (parseStation b).2 [] }
    m s)

/-- Another in-use entry of the same kind holds the value (R48). -/
def duplicateValue (s : State) (i : Fin 16) (v : NetAddr) : Bool :=
  (List.finRange 16).any fun j => j != i && (s.entries[j]).any fun e => e.value == v

/-- PUT_ADDRESS (R47, R48). -/
def execPutAddress (m : Request) (s : State) : Host.Outcome State Fault Refusal :=
  .next (takeRequest
    { kind := 0x02
      accepts := inIdle
      size := none
      refusalBody := noBody
      perform := fun b s =>
        verdictOf (parseAddress b) [] fun (i, entry, clamped) =>
          if entry.any fun e => duplicateValue s i e.value then .refused .duplicate []
          else .performed { s with entries := s.entries.set i entry } clamped [] }
    m s)

/-- PUT_GROUP (R26). -/
def execPutGroup (m : Request) (s : State) : Host.Outcome State Fault Refusal :=
  .next (takeRequest
    { kind := 0x03
      accepts := inIdle
      size := some 9
      refusalBody := noBody
      perform := fun b s =>
        verdictOf (parseGroup b) [] fun (i, g, clamped) =>
          .performed { s with groups := s.groups.set i g } clamped [] }
    m s)

/-- PUT_RULE (R32). -/
def execPutRule (m : Request) (s : State) : Host.Outcome State Fault Refusal :=
  .next (takeRequest
    { kind := 0x04
      accepts := inIdle
      size := none
      refusalBody := noBody
      perform := fun b s =>
        verdictOf (parseRule s.freeCount b) [] fun (i, r, clamped, next) =>
          .performed
            { s with rules := s.rules.set i r, matchCounts := s.matchCounts.set i 0, freeCount := next } clamped [] }
    m s)

/-- The Put Template reply body: the pool's free bytes (R66, R196). -/
def freeBytesBody (s : State) : List Byte := bytesOfNat 2 (freePoolBytes s)

/-- PUT_TEMPLATE (R66). -/
def execPutTemplate (m : Request) (s : State) : Host.Outcome State Fault Refusal :=
  .next (takeRequest
    { kind := 0x05
      accepts := inIdle
      size := none
      refusalBody := freeBytesBody
      perform := fun b s =>
        verdictOf (parseTemplate b) (freeBytesBody s) fun (id, bytes) =>
          if (template? s id).isSome then .refused .duplicate (freeBytesBody s)
          else if freePoolBytes s < bytes.length then .refused .noSpace (freeBytesBody s)
          else
            let loaded := { s with pool := s.pool ++ [(id, bytes)] }
            .performed loaded false (freeBytesBody loaded) }
    m s)

/-- PUT_PATCH_LIST (R69). -/
def execPutPatchList (m : Request) (s : State) : Host.Outcome State Fault Refusal :=
  .next (takeRequest
    { kind := 0x06
      accepts := inIdle
      size := none
      refusalBody := noBody
      perform := fun b s =>
        verdictOf (parsePatchList b) [] fun (i, list, clamped) =>
          .performed { s with patchLists := s.patchLists.set i list } clamped [] }
    m s)

/-- PUT_DUTY (R104). The probe flag keeps its value. -/
def execPutDuty (m : Request) (s : State) : Host.Outcome State Fault Refusal :=
  .next (takeRequest
    { kind := 0x07
      accepts := inIdle
      size := none
      refusalBody := noBody
      perform := fun b s =>
        verdictOf (parseDuty s.freeCount b) [] fun (d, u, clamped, next) =>
          .performed
            { s with duties := s.duties.set d { s.duties[d] with duty := u }, freeCount := next } clamped [] }
    m s)

/-- SET_LANES (R163). -/
def execSetLanes (m : Request) (s : State) : Host.Outcome State Fault Refusal :=
  .next (takeRequest
    { kind := 0x08
      accepts := inIdle
      size := some 48
      refusalBody := noBody
      perform := fun b s =>
        verdictOf (parseLanes b) [] fun (lanes, clamped) => .performed { s with laneSettings := lanes } clamped [] }
    m s)

/-- SET_CURVE (R150): the settings replaced, the budget set to the new P0, which is the reply's body. -/
def execSetCurve (m : Request) (s : State) : Host.Outcome State Fault Refusal :=
  .next (takeRequest
    { kind := 0x09
      accepts := inIdle
      size := some 15
      refusalBody := noBody
      perform := fun b s =>
        let c := (parseCurve b).1
        .performed { s with curve := c, budget := c.points[0] } (parseCurve b).2 [BitVec.ofNat 8 c.points[0]] }
    m s)

/-- The probe flags of all duties, set on the signature's duty alone (R136). -/
def setProbeFlags (g : Option Signature) (v : Vector DutySlot 12) : Vector DutySlot 12 :=
  Vector.ofFn fun d : Fin 12 => { v[d] with probe := g.any fun x => x.probeDuty == d }

/-- SET_SIGNATURE (R136). -/
def execSetSignature (m : Request) (s : State) : Host.Outcome State Fault Refusal :=
  .next (takeRequest
    { kind := 0x0A
      accepts := inIdle
      size := some 11
      refusalBody := noBody
      perform := fun b s =>
        verdictOf (parseSignature b) [] fun (g, clamped) =>
          .performed { s with signature := g, duties := setProbeFlags g s.duties } clamped [] }
    m s)

end Sys2Proof.Machine
end

