-- ==== Sys2Proof/Machine/Timers.lean ====
section
/-! DEFINITION. The meanings of the other timers: TENTATIVE_EXPIRY, CONTEST_EXPIRY, LOAD_WINDOW_EXPIRY,
DECAY_PERIOD_EXPIRY, SETTLE_HOLD_EXPIRY, PATIENCE_EXPIRY, GAP_EXPIRY. An expiry acts on a running timer in the proxy states
where it runs (R3), whatever the timer has left (log 2); without one nothing expires. -/

namespace Sys2Proof.Machine

/-- A tentative expiry on an entry (R50). -/
def AddrEntry.expireTentative (e : AddrEntry) : AddrEntry :=
  { e with
    state := if e.state = .tentative then .defended else e.state
    tentativeTimer := none }

/-- TENTATIVE_EXPIRY (R50). -/
def execTentativeExpiry (i : Fin 16) (s : State) : Host.Outcome State Fault Refusal :=
  .next
    (if s.active && (s.entries[i]).any fun e => e.tentativeTimer.isSome then updEntry i AddrEntry.expireTentative s
     else s)

/-- A contest expiry on an entry (R52): the conflict count and last claimant are kept. -/
def AddrEntry.expireContest (e : AddrEntry) : AddrEntry :=
  { e with
    state := if e.state = .contested then .defended else e.state
    contestTimer := none }

/-- CONTEST_EXPIRY (R52). -/
def execContestExpiry (i : Fin 16) (s : State) : Host.Outcome State Fault Refusal :=
  .next
    (if s.active && (s.entries[i]).any fun e => e.contestTimer.isSome then updEntry i AddrEntry.expireContest s
     else s)

/-- LOAD_WINDOW_EXPIRY (R151). -/
def execLoadWindowExpiry (s : State) : Host.Outcome State Fault Refusal :=
  .next (if s.active && s.windowTimer.isSome then endWindow s else s)

/-- DECAY_PERIOD_EXPIRY (R166): the lanes decay and the next period starts. -/
def execDecayPeriodExpiry (s : State) : Host.Outcome State Fault Refusal :=
  .next
    (if s.active && s.decayTimer.isSome then
      { decayLanes s with decayTimer := some (s.station.decayPeriod * 1000) }
     else s)

/-- SETTLE_HOLD_EXPIRY (R168). -/
def execSettleHoldExpiry (s : State) : Host.Outcome State Fault Refusal :=
  .next (expireSettle s)

/-- PATIENCE_EXPIRY (R173): with a re-signal count below 3, WAKE is deasserted and the gap starts. -/
def execPatienceExpiry (s : State) : Host.Outcome State Fault Refusal :=
  .next
    (if s.proxy == .waking && s.patienceTimer.isSome then
      if s.resignals < Config.resignalLimit then
        { s with wake := false, patienceTimer := none, gapTimer := some Config.gapMs }
      else { s with patienceTimer := none }
     else s)

/-- GAP_EXPIRY (R173): WAKE is asserted again, the count rises, and patience starts again while the count is below 3. -/
def execGapExpiry (s : State) : Host.Outcome State Fault Refusal :=
  .next
    (if s.proxy == .waking && s.gapTimer.isSome then
      { s with
        wake := true
        gapTimer := none
        resignals := s.resignals + 1
        patienceTimer :=
          if s.resignals + 1 < Config.resignalLimit then some (s.station.wakePatience * 1000) else none }
     else s)

end Sys2Proof.Machine
end

