-- ==== Sys2Proof/Machine/Dispatch.lean ====
section
/-! DEFINITION. One arm per command, each a direct call of its meaning. -/

namespace Sys2Proof.Machine

def exec (i : Instr) (s : State) : Host.Outcome State Fault Refusal :=
  match i with
  | .powerOn => Sys2Proof.Machine.execPowerOn s
  | .resetPin => Sys2Proof.Machine.execResetPin s
  | .otherTransaction bytes => Sys2Proof.Machine.execOtherTransaction bytes s
  | .cutShortMessage bytes => Sys2Proof.Machine.execCutShortMessage bytes s
  | .unknownKindRequest kind m => Sys2Proof.Machine.execUnknownKindRequest kind m s
  | .read clocked => Sys2Proof.Machine.execRead clocked s
  | .setStation m => Sys2Proof.Machine.execSetStation m s
  | .putAddress m => Sys2Proof.Machine.execPutAddress m s
  | .putGroup m => Sys2Proof.Machine.execPutGroup m s
  | .putRule m => Sys2Proof.Machine.execPutRule m s
  | .putTemplate m => Sys2Proof.Machine.execPutTemplate m s
  | .putPatchList m => Sys2Proof.Machine.execPutPatchList m s
  | .putDuty m => Sys2Proof.Machine.execPutDuty m s
  | .setLanes m => Sys2Proof.Machine.execSetLanes m s
  | .setCurve m => Sys2Proof.Machine.execSetCurve m s
  | .setSignature m => Sys2Proof.Machine.execSetSignature m s
  | .clearProfile m => Sys2Proof.Machine.execClearProfile m s
  | .assume m => Sys2Proof.Machine.execAssume m s
  | .reclaim m => Sys2Proof.Machine.execReclaim m s
  | .readReport m => Sys2Proof.Machine.execReadReport m s
  | .fetchHeld m => Sys2Proof.Machine.execFetchHeld m s
  | .rearm m => Sys2Proof.Machine.execRearm m s
  | .detach m => Sys2Proof.Machine.execDetach m s
  | .queryStatus m => Sys2Proof.Machine.execQueryStatus m s
  | .resetPart m => Sys2Proof.Machine.execResetPart m s
  | .receivedFrame frame => Sys2Proof.Machine.execReceivedFrame frame s
  | .transmitResult r => Sys2Proof.Machine.execTransmitResult r s
  | .blockedDutyAdmit => Sys2Proof.Machine.execBlockedDutyAdmit s
  | .frameToSend => Sys2Proof.Machine.execFrameToSend s
  | .handbackComplete => Sys2Proof.Machine.execHandbackComplete s
  | .linkState l => Sys2Proof.Machine.execLinkState l s
  | .badRecord bytes => Sys2Proof.Machine.execBadRecord bytes s
  | .deferredResume => Sys2Proof.Machine.execDeferredResume s
  | .tentativeExpiry e => Sys2Proof.Machine.execTentativeExpiry e s
  | .contestExpiry e => Sys2Proof.Machine.execContestExpiry e s
  | .dutyTimerExpiry d => Sys2Proof.Machine.execDutyTimerExpiry d s
  | .replyWindowExpiry d => Sys2Proof.Machine.execReplyWindowExpiry d s
  | .backoffExpiry d => Sys2Proof.Machine.execBackoffExpiry d s
  | .loadWindowExpiry => Sys2Proof.Machine.execLoadWindowExpiry s
  | .decayPeriodExpiry => Sys2Proof.Machine.execDecayPeriodExpiry s
  | .settleHoldExpiry => Sys2Proof.Machine.execSettleHoldExpiry s
  | .patienceExpiry => Sys2Proof.Machine.execPatienceExpiry s
  | .gapExpiry => Sys2Proof.Machine.execGapExpiry s
  | .elapsedTimeAdvance => Sys2Proof.Machine.execElapsedTimeAdvance s

end Sys2Proof.Machine
end

