-- ==== Sys2Proof/Machine/Layouts.lean ====
section
/-! DEFINITION. The layouts of request bodies as R200 gives them, written from the fields to the bytes: what a host sends to
store a given station record, entry, rule, template, patch list, duty, lane setting, curve or signature. -/

namespace Sys2Proof.Machine

/-- A complete request with a given tag and body (R200: the body length is the body's). -/
def requestOf (tag : Byte) (body : List Byte) : Request :=
  { tag := tag, stated := BitVec.ofNat 16 body.length, body := body }

/-- A one-byte number. -/
def oneByte (n : Nat) : Byte := BitVec.ofNat 8 n

/-- An optional one-byte id: its presence byte, then the id, 0 when absent. -/
def optIdBody {n : Nat} (id : Option (Fin n)) : List Byte :=
  [flagByte id.isSome, id.elim 0 fun i => oneByte i.val]

/-- The code of a loaded state. -/
def LoadedState.code : LoadedState → Byte
  | .tentative => 0
  | .defended => 1

/-- The code of an answer mode. -/
def AnswerMode.code : AnswerMode → Byte
  | .answer => 0
  | .observe => 1

/-- The code of a rule action. -/
def Action.code : Action → Byte
  | .answer => 0
  | .hold => 1
  | .note => 2
  | .claim => 3
  | .drop => 4

/-- The code of an answer class. -/
def AnswerClass.code : AnswerClass → Byte
  | .essential => 0
  | .ordinary => 1

/-- The code of a pseudo-header kind. -/
def PseudoKind.code : PseudoKind → Byte
  | .none => 0
  | .short => 1
  | .long => 2

/-- The code of a decay mode. -/
def DecayMode.code : DecayMode → Byte
  | .shift => 0
  | .step => 1

/-- The Set Station body, 22 bytes. -/
def stationBody (t : Station) : List Byte :=
  bytesOfBits 6 t.ownAddr ++ [flagByte t.vlan.isSome] ++ bytesOfBits 2 (t.vlan.getD 0)
    ++ bytesOfNat 2 t.settleHold ++ [oneByte t.contestWindow, oneByte t.conflictLane.val]
    ++ bytesOfNat 2 t.conflictWeight ++ bytesOfNat 2 t.wakePatience ++ [oneByte t.decayPeriod]
    ++ bytesOfNat 4 t.totalThreshold

/-- The Put Address body of an in-use entry, 9 or 21 bytes. -/
def addressBody (i : Fin 16) (value : NetAddr) (loaded : LoadedState) (mode : AnswerMode) (time : Nat) : List Byte :=
  [oneByte i.val, value.kind.code, loaded.code, mode.code, oneByte time] ++ value.bytes

/-- The Put Group body, 9 bytes. -/
def groupBody (i : Fin 8) (g : GroupEntry) : List Byte :=
  [oneByte i.val, flagByte g.inUse] ++ bytesOfBits 6 g.addr ++ [oneByte g.matchLen]

/-- A compare item: offset, length, the value bytes, the mask bytes. -/
def itemBody (c : CompareItem) : List Byte :=
  bytesOfNat 2 c.offset ++ [oneByte c.bytes.length] ++ c.bytes.map Prod.fst ++ c.bytes.map Prod.snd

/-- The Put Rule body, 23 bytes and the compare items. -/
def ruleBody (i : Fin 32) (r : Rule) : List Byte :=
  [oneByte i.val, flagByte r.inUse, flagByte r.destOwn ||| (flagByte r.destBroadcast <<< 1), r.groups,
      flagByte r.ethertype.isSome]
    ++ bytesOfBits 2 (r.ethertype.getD 0)
    ++ [flagByte r.addrRef.isSome] ++ bytesOfNat 2 (r.addrRef.elim 0 AddrRef.offset)
    ++ [r.addrRef.elim 0 fun a => a.kind.code, r.action.code] ++ bytesOfNat 2 r.claimantOffset ++ [r.cls.code]
    ++ optIdBody r.template ++ optIdBody r.patchList ++ [oneByte r.lane.val] ++ bytesOfNat 2 r.weight
    ++ [oneByte r.items.length] ++ r.items.flatMap itemBody

/-- The Put Template body. -/
def templateBody (id : Fin 48) (bytes : List Byte) : List Byte := oneByte id.val :: bytes

/-- The operands of a patch after its kind byte, as many as its kind has. -/
def Patch.operands : Patch → List Byte
  | .copy source dest count => bytesOfNat 2 source ++ bytesOfNat 2 dest ++ [oneByte count]
  | .ownLink dest => bytesOfNat 2 dest
  | .fillEntry dest (.index i) => bytesOfNat 2 dest ++ [0, oneByte i.val]
  | .fillEntry dest .matched => bytesOfNat 2 dest ++ [1]
  | .setMasked dest data mask => bytesOfNat 2 dest ++ [data, mask]
  | .counter dest width => bytesOfNat 2 dest ++ [oneByte width]
  | .length dest base => bytesOfNat 2 dest ++ bytesOfNat 2 base
  | .sum16 start stop store pseudo addrA addrB protocol zeroAsOnes =>
    bytesOfNat 2 start ++ bytesOfNat 2 stop ++ bytesOfNat 2 store ++ [pseudo.code] ++ bytesOfNat 2 addrA
      ++ bytesOfNat 2 addrB ++ [protocol, flagByte zeroAsOnes]

/-- The kind code of a patch. -/
def Patch.code : Patch → Byte
  | .copy _ _ _ => 1
  | .ownLink _ => 2
  | .fillEntry _ _ => 3
  | .setMasked _ _ _ => 4
  | .counter _ _ => 5
  | .length _ _ => 6
  | .sum16 _ _ _ _ _ _ _ _ => 7

/-- A patch record, 16 bytes; the bytes after the operands are zero. -/
def patchBody (p : Patch) : List Byte :=
  p.code :: (p.operands ++ List.replicate (15 - p.operands.length) 0)

/-- The Put Patch List body that loads a list. -/
def patchListBody (id : Fin 32) (list : List Patch) : List Byte :=
  [oneByte id.val, 1, oneByte list.length] ++ list.flatMap patchBody

/-- A pattern's head, 6 bytes. -/
def patternHead (p : Option Pattern) : List Byte :=
  match p with
  | none => List.replicate 6 0
  | some q =>
    [1, oneByte q.items.length, flagByte q.echo.isSome] ++ bytesOfNat 2 (q.echo.elim 0 EchoItem.offset)
      ++ [oneByte (q.echo.elim 0 EchoItem.width)]

/-- A pattern's compare items; an absent pattern carries none. -/
def patternItems (p : Option Pattern) : List Byte := p.elim [] fun q => q.items.flatMap itemBody

/-- The failure action of a duty, 4 bytes; the lane and weight are read for WAKE alone. -/
def failureBody : FailureAction → List Byte
  | .wake lane weight => [0, oneByte lane.val] ++ bytesOfNat 2 weight
  | .suspend => [1, 0, 0, 0]
  | .continueRuns => [2, 0, 0, 0]

/-- The capture of a duty, 15 bytes; the INTERVAL fields are read for INTERVAL alone. -/
def captureBody : Option Capture → List Byte
  | none => List.replicate 15 0
  | some c =>
    [1] ++ bytesOfNat 2 c.offset ++ [oneByte c.width] ++
      match c.target with
      | .interval numerator minI maxI => [0] ++ bytesOfNat 2 numerator ++ bytesOfNat 4 minI ++ bytesOfNat 4 maxI
      | .counter => 1 :: List.replicate 10 0

/-- The Put Duty body of an in-use duty, 59 bytes and the pattern items. -/
def dutyBody (d : Fin 12) (p : DutyProfile) : List Byte :=
  [oneByte d.val, 1, oneByte p.template.val] ++ optIdBody p.patchList ++ bytesOfNat 4 p.firstDelay
    ++ bytesOfNat 4 p.interval ++ bytesOfNat 2 p.repeatCount ++ bytesOfNat 2 p.replyWindow
    ++ [oneByte p.startupTries, oneByte p.runTries] ++ bytesOfNat 2 p.backoffBase
    ++ [oneByte p.backoffMul.val, oneByte p.roundsLimit] ++ failureBody p.failure ++ captureBody p.capture
    ++ bytesOfBits 4 p.counterInit ++ [p.counterInc] ++ patternHead p.reply ++ patternHead p.reject
    ++ patternItems p.reply ++ patternItems p.reject

/-- The record of one lane in a Set Lanes body, 6 bytes. -/
def laneBody (c : LaneSetting) : List Byte :=
  bytesOfNat 2 c.threshold ++ [c.mode.code, oneByte c.shift] ++ bytesOfNat 2 c.step

/-- The Set Lanes body, 48 bytes. -/
def lanesBody (v : Vector LaneSetting 8) : List Byte := v.toList.flatMap laneBody

/-- The Set Curve body, 15 bytes. -/
def curveBody (c : Curve) : List Byte :=
  c.points.toList.map oneByte ++ [oneByte c.ramp] ++ bytesOfNat 2 c.stormLevel ++ [oneByte c.stormLane.val]
    ++ bytesOfNat 2 c.stormWeight

/-- The Set Signature body, 11 bytes. -/
def signatureBody : Option Signature → List Byte
  | none => List.replicate 11 0
  | some g =>
    [1] ++ bytesOfBits 6 g.gateway ++ [oneByte g.probeDuty.val, oneByte g.lane.val] ++ bytesOfNat 2 g.weight

end Sys2Proof.Machine
end

