-- ==== Sys2Proof/Safety.lean ====
section
/-! DEFINITION. What the statements speak of: the ranges of the profile's fields, the invariants of the state that the spec
names, the nine checks of Assume as conditions, and the words in which a command's effect is told. -/

namespace Sys2Proof.Machine

/-! ### Ranges of the profile's fields -/

/-- The ranges of the station record (R4). -/
structure Station.InRange (t : Station) : Prop where
  vlan : ∀ v ∈ t.vlan, 1 ≤ v.toNat ∧ v.toNat ≤ 4094
  settleHold : t.settleHold ≤ 5000
  contestWindow : 1 ≤ t.contestWindow ∧ t.contestWindow ≤ 60
  conflictWeight : t.conflictWeight ≤ 65535
  wakePatience : 5 ≤ t.wakePatience ∧ t.wakePatience ≤ 300
  decayPeriod : 1 ≤ t.decayPeriod ∧ t.decayPeriod ≤ 60
  totalThreshold : t.totalThreshold ≤ 524280

/-- The ranges of a compare item (R32, R103). -/
structure CompareItem.InRange (c : CompareItem) : Prop where
  offset : c.offset ≤ 1513
  length : 1 ≤ c.bytes.length ∧ c.bytes.length ≤ 8

/-- The ranges of a rule, and the address reference a CLAIM must have (R32). -/
structure Rule.InRange (r : Rule) : Prop where
  items : r.items.length ≤ 4 ∧ ∀ c ∈ r.items, c.InRange
  addrRef : ∀ a ∈ r.addrRef, a.offset ≤ 1513
  claimantOffset : r.claimantOffset ≤ 1513
  weight : r.weight ≤ 65535
  claim : r.action = .claim → r.addrRef.isSome = true

/-- The ranges of a patch's operands (R68), a SUM16's range start not above its end (R69). -/
def Patch.InRange : Patch → Prop
  | .copy source dest count => source ≤ 1513 ∧ dest ≤ 1513 ∧ 1 ≤ count ∧ count ≤ 64
  | .ownLink dest => dest ≤ 1513
  | .fillEntry dest _ => dest ≤ 1513
  | .setMasked dest _ _ => dest ≤ 1513
  | .counter dest width => dest ≤ 1513 ∧ 1 ≤ width ∧ width ≤ 4
  | .length dest base => dest ≤ 1513 ∧ base ≤ 1514
  | .sum16 start stop store _ addrA addrB _ _ =>
    start ≤ stop ∧ stop ≤ 1514 ∧ store ≤ 1513 ∧ addrA ≤ 1513 ∧ addrB ≤ 1513

/-- The ranges of a pattern (R103). -/
structure Pattern.InRange (p : Pattern) : Prop where
  items : p.items.length ≤ 4 ∧ ∀ c ∈ p.items, c.InRange
  echo : ∀ e ∈ p.echo, e.offset ≤ 1513 ∧ 1 ≤ e.width ∧ e.width ≤ 4

/-- The ranges of a capture (R103). -/
structure Capture.InRange (c : Capture) : Prop where
  offset : c.offset ≤ 1513
  width : c.width = 1 ∨ c.width = 2 ∨ c.width = 4
  interval : ∀ n lo hi, c.target = .interval n lo hi → 1 ≤ n ∧ n ≤ 256 ∧ 1 ≤ lo ∧ lo ≤ hi ∧ hi ≤ 604800

/-- The ranges of a duty's profile, and what R104 refuses in combination. -/
structure DutyProfile.InRange (p : DutyProfile) : Prop where
  firstDelay : p.firstDelay ≤ 604800
  interval : 1 ≤ p.interval ∧ p.interval ≤ 604800
  repeatCount : p.repeatCount ≤ 65535
  reply : ∀ q ∈ p.reply, q.InRange
  reject : ∀ q ∈ p.reject, q.InRange
  replyWindow : 10 ≤ p.replyWindow ∧ p.replyWindow ≤ 30000
  startupTries : 1 ≤ p.startupTries ∧ p.startupTries ≤ 4
  runTries : 1 ≤ p.runTries ∧ p.runTries ≤ 4
  backoffBase : 1 ≤ p.backoffBase ∧ p.backoffBase ≤ 3600
  roundsLimit : p.roundsLimit ≤ 7
  weight : ∀ lane w, p.failure = .wake lane w → w ≤ 65535
  capture : ∀ c ∈ p.capture, c.InRange
  needs_reply : p.reject.isSome = true ∨ p.capture.isSome = true → p.reply.isSome = true

/-- The ranges of a lane's settings (R162). -/
structure LaneSetting.InRange (c : LaneSetting) : Prop where
  threshold : c.threshold ≤ 65535
  shift : c.shift ≤ 16
  step : c.step ≤ 65535

/-- The ranges of the Load Governor's settings (R149). -/
structure Curve.InRange (c : Curve) : Prop where
  points : ∀ k : Fin 9, c.points[k] ≤ 255
  ramp : 1 ≤ c.ramp ∧ c.ramp ≤ 255
  stormLevel : c.stormLevel ≤ 1023
  stormWeight : c.stormWeight ≤ 65535

/-- Every stored field of the profile is in its range (R195), whatever the requests carried. -/
structure RangesInv (s : State) : Prop where
  station : s.station.InRange
  entries : ∀ i : Fin 16, ∀ e ∈ s.entries[i], 1 ≤ e.tentativeTime ∧ e.tentativeTime ≤ 10
  groups : ∀ i : Fin 8, 1 ≤ (s.groups[i]).matchLen ∧ (s.groups[i]).matchLen ≤ 6
  rules : ∀ i : Fin 32, (s.rules[i]).InRange
  lists : ∀ i : Fin 32, ∀ ps ∈ s.patchLists[i], ps.length ≤ 8 ∧ ∀ p ∈ ps, p.InRange
  duties : ∀ d : Fin 12, ∀ u ∈ (s.duties[d]).duty, u.profile.InRange
  lanes : ∀ j : Fin 8, (s.laneSettings[j]).InRange
  curve : s.curve.InRange
  signature : ∀ g ∈ s.signature, g.weight ≤ 65535

/-! ### Invariants of the run-time state -/

/-- The Template Pool: one template an id, 14 to 1,514 bytes each, 8,192 bytes together (R65, R66). -/
structure PoolInv (s : State) : Prop where
  ids : (s.pool.map Prod.fst).Nodup
  lengths : ∀ t ∈ s.pool, 14 ≤ t.2.length ∧ t.2.length ≤ 1514
  room : poolUsed s ≤ 8192

/-- No entry waits while none is in flight: the oldest is handed over at the end of the event that made it possible (R86). -/
def Served (s : State) : Prop := someInFlight s.queue = false → s.queue = []

/-- The Transmit Queue's limits (R85), its one entry in flight (R86), its frame lengths (R98). -/
structure QueueInv (s : State) : Prop where
  room : s.queue.length ≤ 8
  ordinary : ordinaryCount s.queue ≤ 6
  one_in_flight : (s.queue.countP fun e => e.inFlight) ≤ 1
  lengths : ∀ e ∈ s.queue, 60 ≤ e.frame.length ∧ e.frame.length ≤ 1518
  served : Served s

/-- A duty's place in the Transmit Queue (R109): at most one frame of each duty, and while the part proxies a duty has one
exactly when it is QUEUED; in LINK_DOWN nothing waits behind the frame in flight (R93). -/
structure DutyQueueInv (s : State) : Prop where
  one_each : ∀ d : Fin 12, (s.queue.countP fun e => e.origin == .duty d) ≤ 1
  cls : ∀ e ∈ s.queue, (e.cls = .duty ↔ ∃ d, e.origin = .duty d)
  queued : s.active = true → ∀ d : Fin 12,
    ((∃ e ∈ s.queue, e.origin = .duty d) ↔ ∃ u ∈ (s.duties[d]).duty, u.run.state = .queued)
  link_down : s.active = true → s.net = .linkDown → ∀ e ∈ s.queue, e.inFlight = true

/-- While the part proxies and a duty is BLOCKED, the queue holds 8 entries (R90). -/
def BlockedInv (s : State) : Prop :=
  s.active = true → ∀ d : Fin 12, ∀ u ∈ (s.duties[d]).duty, u.run.state = .blocked → s.queue.length = 8

/-- The run-time state of the duties (R105, R115, R116). A duty's failed rounds stay below its rounds limit but where its
runs have ended, and are 0 where a new run is due, both apart from a probe that waits for the restart of the next CHECKING (R108). -/
structure DutyInv (s : State) : Prop where
  pending : ∀ d : Fin 12, ∀ u ∈ (s.duties[d]).duty, (u.run.pending.isSome = true ↔ u.run.state = .deferred)
  void : ∀ d : Fin 12, ∀ u ∈ (s.duties[d]).duty, u.run.void = true → u.run.state = .queued
  tries : ∀ d : Fin 12, ∀ u ∈ (s.duties[d]).duty,
    1 ≤ u.run.triesAllowed ∧ u.run.triesAllowed ≤ 4 ∧ u.run.triesUsed ≤ u.run.triesAllowed
  tries_left : ∀ d : Fin 12, ∀ u ∈ (s.duties[d]).duty,
    u.run.state = .queued ∨ u.run.state = .blocked ∨ u.run.state = .awaiting ∨ u.run.pending = some .try_ →
      u.run.triesUsed < u.run.triesAllowed
  rounds : ∀ d : Fin 12, ∀ u ∈ (s.duties[d]).duty,
    u.profile.roundsLimit = 0 ∨ u.run.failedRounds < u.profile.roundsLimit ∨
      (u.run.failedRounds = u.profile.roundsLimit ∧
        (u.run.state = .failed ∨ u.run.state = .suspended ∨
          ((s.duties[d]).probe = true ∧ u.run.pending = some .newRun ∧ s.signature.isSome = true ∧
            (s.net = .foreign ∨ s.net = .linkDown))))
  fresh_run : ∀ d : Fin 12, ∀ u ∈ (s.duties[d]).duty, u.run.state = .waiting ∨ u.run.pending = some .newRun →
    u.run.failedRounds = 0 ∨
      ((s.duties[d]).probe = true ∧ u.run.pending = some .newRun ∧ s.signature.isSome = true ∧
        (s.net = .foreign ∨ s.net = .linkDown))
  at_rest : s.proxy = .idle → ∀ d : Fin 12, ∀ u ∈ (s.duties[d]).duty,
    u.run.state = .waiting ∧ u.run.timer = none ∧ u.run.failedRounds = 0 ∧ u.run.triesUsed = 0
      ∧ u.run.runsCompleted = 0 ∧ u.run.lastOutcome = .none ∧ u.run.firstRun = true
  timer : s.active = true → ∀ d : Fin 12, ∀ u ∈ (s.duties[d]).duty,
    (u.run.timer.isSome = true ↔ u.run.state = .waiting ∨ u.run.state = .awaiting ∨ u.run.state = .backoff)

/-- The Address Table (R46 to R52): no value twice, TENTATIVE only where loaded so, the timers by state, and every entry at
its loaded state in IDLE. -/
structure EntryInv (s : State) : Prop where
  distinct : ∀ i j : Fin 16, i ≠ j → ∀ a ∈ s.entries[i], ∀ b ∈ s.entries[j], a.value ≠ b.value
  counts : ∀ i : Fin 16, ∀ e ∈ s.entries[i], e.conflicts ≤ 255
  tentative : ∀ i : Fin 16, ∀ e ∈ s.entries[i], e.state = .tentative → e.loaded = .tentative
  timers : s.active = true → ∀ i : Fin 16, ∀ e ∈ s.entries[i],
    (e.tentativeTimer.isSome = true ↔ e.state = .tentative) ∧ (e.contestTimer.isSome = true ↔ e.state = .contested)
  at_rest : s.proxy = .idle → ∀ i : Fin 16, ∀ e ∈ s.entries[i],
    (e.state = .tentative ↔ e.loaded = .tentative) ∧ (e.state = .defended ↔ e.loaded = .defended)
      ∧ e.conflicts = 0 ∧ e.lastClaimant = none

/-- Timers run in PROXY and WAKING alone (R3); there the load window and the decay period always run (R151, R166). -/
structure TimersInv (s : State) : Prop where
  running : s.active = true → s.windowTimer.isSome = true ∧ s.decayTimer.isSome = true
  stopped : s.active = false →
    s.windowTimer = none ∧ s.decayTimer = none ∧ s.settleTimer = none ∧ s.patienceTimer = none ∧ s.gapTimer = none
  entries : s.active = false → ∀ i : Fin 16, ∀ e ∈ s.entries[i], e.tentativeTimer = none ∧ e.contestTimer = none
  duties : s.active = false → ∀ d : Fin 12, ∀ u ∈ (s.duties[d]).duty, u.run.timer = none

/-- The Wake Unit (R9, R162, R170 to R173): the lanes in range, WAKE only in WAKING and there deasserted only in a gap, WAKING
exactly while a PROXY's reason set is no longer empty, the first reason a member of the set. -/
structure WakeInv (s : State) : Prop where
  lanes : ∀ j : Fin 8, s.lanes[j] ≤ 65535
  line : s.wake = true → s.proxy = .waking
  gap : s.proxy = .waking → (s.wake = false ↔ s.gapTimer.isSome = true)
  proxy : s.proxy = .proxy →
    s.reasons = 0 ∧ s.resignals = 0 ∧ s.patienceTimer = none ∧ s.gapTimer = none
  waking : s.proxy = .waking → s.reasons ≠ 0
  first : s.firstReason.isSome = true ↔ s.reasons ≠ 0
  member : ∀ f ∈ s.firstReason, s.reasons.getLsbD f.reason.val = true ∧ f.time ≤ s.elapsed
  resignals : s.resignals ≤ 3
  patience : s.patienceTimer.isSome = true → s.resignals < 3 ∧ s.gapTimer = none
  gap_count : s.gapTimer.isSome = true → s.resignals < 3

/-- The Load Governor (R149, R155, R156): the budget between two points of the curve, spent within the budget, and the values
of IDLE. -/
structure GovernorInv (s : State) : Prop where
  low : ∃ k : Fin 9, s.curve.points[k] ≤ s.budget
  high : ∃ k : Fin 9, s.budget ≤ s.curve.points[k]
  spent : s.spent ≤ s.budget
  vote : s.stormVote ≤ 2
  vote_off : s.curve.stormLevel = 0 → s.stormVote = 0
  count : s.windowCount ≤ 65535
  at_rest : s.proxy = .idle → s.windowCount = 0 ∧ s.spent = 0 ∧ s.stormVote = 0 ∧ s.budget = s.curve.points[0]

/-- The Held Frame Queue (R178, R180): its limits, the arrival times never decreasing, empty in IDLE (R182). -/
structure HeldInv (s : State) : Prop where
  records : s.held.length ≤ 4
  bytes : heldBytes s ≤ 6144
  lengths : ∀ h ∈ s.held, 14 ≤ h.frame.length ∧ h.frame.length ≤ 1522
  order : s.held.Pairwise fun a b => a.time ≤ b.time
  times : ∀ h ∈ s.held, h.time ≤ s.elapsed
  at_rest : s.proxy = .idle → s.held = []

/-- What a report or a handback says of the Reclaim (R10, R184). -/
def ReclaimSays (state : ProxyState) (host : Bool) (reasons : BitVec 9) (first : Option FirstReason) : Prop :=
  (state = .proxy ∧ host = true ∧ reasons = 0) ∨
    (state = .waking ∧ host = false ∧ reasons ≠ 0 ∧ first.isSome = true)

/-- The lifecycle (R13, R18, R85, R183, R184). -/
structure LifecycleInv (s : State) : Prop where
  owner : s.owner = .part ↔ s.proxy = .proxy ∨ s.proxy = .waking ∨ s.proxy = .handback
  report : s.report.isSome = true ↔ s.proxy = .report
  quiet : s.proxy = .idle ∨ s.proxy = .report → s.queue = []
  handback : s.proxy = .handback → s.queue ≠ [] ∧ ∀ e ∈ s.queue, e.inFlight = true
  reclaim : s.proxy = .handback →
    ReclaimSays s.reclaimState s.hostInitiated s.reasons s.firstReason ∧ s.reclaimTime ≤ s.elapsed
  report_says : ∀ r ∈ s.report,
    ReclaimSays r.proxyAtReclaim r.hostInitiated r.reasons r.firstReason ∧ r.reclaimTime ≤ r.completionTime

/-- The Network Check (R136, R137, R139): the probe flag on the signature's duty alone; while the part proxies, LINK_DOWN exactly
while the link is not up; CHECKING and FOREIGN only with a signature, whose duty expects a reply. -/
structure NetInv (s : State) : Prop where
  flags : ∀ d : Fin 12, ((s.duties[d]).probe = true ↔ ∃ g ∈ s.signature, g.probeDuty = d)
  link : s.active = true → (s.net = .linkDown ↔ s.linkState ≠ .up)
  signature : s.proxy ≠ .idle → s.signature = none → s.net = .attached ∨ s.net = .linkDown
  probe : s.active = true → ∀ g ∈ s.signature, ∃ u ∈ (s.duties[g.probeDuty]).duty, u.profile.reply.isSome = true

/-- Every statistic within 32 bits (R45, R95, R149). -/
structure Stats.InRange (t : Stats) : Prop where
  received : t.received ≤ 4294967295
  malformed : t.malformed ≤ 4294967295
  foreignDest : t.foreignDest ≤ 4294967295
  muted : t.muted ≤ 4294967295
  unmatched : t.unmatched ≤ 4294967295
  withheld : t.withheld ≤ 4294967295
  overBudget : t.overBudget ≤ 4294967295
  holdRefused : t.holdRefused ≤ 4294967295
  answersSent : t.answersSent ≤ 4294967295
  answersRefused : t.answersRefused ≤ 4294967295
  queueFull : t.queueFull ≤ 4294967295
  essentialDrop : t.essentialDrop ≤ 4294967295
  linkDrop : t.linkDrop ≤ 4294967295
  stormWindows : t.stormWindows ≤ 4294967295

/-- The counts: every statistic and match count within 32 bits (R45, R95), and the frames counted received at least those that
ended unanswered at a stage, until the received count has saturated. -/
structure StatsInv (s : State) : Prop where
  matches_le : ∀ i : Fin 32, s.matchCounts[i] ≤ 4294967295
  stats : s.stats.InRange
  stages : s.stats.received < 4294967295 →
    s.stats.malformed + s.stats.foreignDest + s.stats.muted + s.stats.unmatched ≤ s.stats.received
  elapsed_le : s.elapsed ≤ 4294967295

/-- Every reply fits a read of 1,537 bytes (R197). -/
def ReplyInv (s : State) : Prop := ∀ r ∈ s.reply, r.encode.length ≤ 1537

/-- All invariants together. -/
structure Inv (s : State) : Prop where
  ranges : RangesInv s
  pool : PoolInv s
  queue : QueueInv s
  dutyQueue : DutyQueueInv s
  blocked : BlockedInv s
  duty : DutyInv s
  entry : EntryInv s
  timers : TimersInv s
  wake : WakeInv s
  governor : GovernorInv s
  held : HeldInv s
  lifecycle : LifecycleInv s
  net : NetInv s
  stats : StatsInv s
  reply : ReplyInv s

/-! ### The profile check as conditions -/

/-- The patches of a named list, none for no list. -/
def listOf (s : State) (id : Option (Fin 32)) : List Patch := id.elim [] fun i => (s.patchLists[i]).getD []

/-- A template is loaded. -/
def Loaded (s : State) (t : Fin 48) : Prop := ∃ b ∈ s.pool, b.1 = t

/-- The bound of a patch in a template of `len` bytes (R82); `matched` is the bound of a FILL_ENTRY of the matched entry, which
depends on who applies the list. -/
def PatchBound (s : State) (len : Nat) (matched : Nat → Prop) : Patch → Prop
  | .copy _ dest count => dest + count ≤ len
  | .ownLink dest => dest + 6 ≤ len
  | .fillEntry dest (.index i) => ∀ e ∈ s.entries[i],
      match e.value with
      | .short _ => dest + 4 ≤ len
      | .long _ => dest + 16 ≤ len
  | .fillEntry dest .matched => matched dest
  | .setMasked dest _ _ => dest + 1 ≤ len
  | .counter dest width => dest + width ≤ len
  | .length dest _ => dest + 2 ≤ len
  | .sum16 _ stop store pseudo addrA addrB _ _ =>
    stop ≤ len ∧ store + 2 ≤ len ∧ (pseudo = .short → addrA + 4 ≤ len ∧ addrB + 4 ≤ len) ∧
      (pseudo = .long → addrA + 16 ≤ len ∧ addrB + 16 ≤ len)

/-- A FILL_ENTRY of the matched entry in a rule's list: as long as the rule's address reference (R6, R82). -/
def MatchedBound (r : Rule) (len dest : Nat) : Prop :=
  ∃ a ∈ r.addrRef,
    match a.kind with
    | .short => dest + 4 ≤ len
    | .long => dest + 16 ≤ len

/-- A named patch list is not loaded, or fills from an entry by index that is not in use (check 3). -/
def ListMissing (s : State) (list : Option (Fin 32)) : Prop :=
  ∃ id ∈ list, s.patchLists[id] = none ∨
    ∃ dest e, Patch.fillEntry dest (.index e) ∈ listOf s list ∧ s.entries[e] = none

/-- The rule at an index is in use and has a property. -/
def RuleAt (s : State) (i : Nat) (fails : Rule → Prop) : Prop :=
  ∃ k : Fin 32, k.val = i ∧ (s.rules[k]).inUse = true ∧ fails s.rules[k]

/-- The duty at an id is in use and its profile has a property. -/
def DutyAt (s : State) (i : Nat) (fails : DutyProfile → Prop) : Prop :=
  ∃ (d : Fin 12) (u : Duty), d.val = i ∧ (s.duties[d]).duty = some u ∧ fails u.profile

/-- An item offends against one of Assume's nine checks (R5, R6, R82), which are eleven steps in their order, since checks 3 and
4 take the rules before the duties. -/
def Offends (s : State) : Nat → Nat → Prop
  -- check 1
  | 0, i => i = 0 ∧ s.station.ownAddr = 0
  -- check 2
  | 1, i => RuleAt s i fun r => r.action = .answer ∧ ∀ t ∈ r.template, ¬Loaded s t
  -- check 3
  | 2, i => RuleAt s i fun r => (∃ t ∈ r.template, ¬Loaded s t) ∨ ListMissing s r.patchList
  | 3, i => DutyAt s i fun p => ListMissing s p.patchList
  -- check 4
  | 4, i => RuleAt s i fun r => ∃ t ∈ r.template, ∃ b ∈ template? s t, ∃ p ∈ listOf s r.patchList,
      ¬PatchBound s b.length (MatchedBound r b.length) p
  | 5, i => DutyAt s i fun p => ∃ b ∈ template? s p.template, ∃ q ∈ listOf s p.patchList,
      ¬PatchBound s b.length (fun _ => True) q
  -- check 5
  | 6, i => RuleAt s i fun r => ∃ dest width, Patch.counter dest width ∈ listOf s r.patchList
  -- check 6
  | 7, i => DutyAt s i fun p => (∃ a b n, Patch.copy a b n ∈ listOf s p.patchList) ∨
      ∃ dest, Patch.fillEntry dest .matched ∈ listOf s p.patchList
  -- check 7
  | 8, i => DutyAt s i fun p => ¬Loaded s p.template
  -- check 8
  | 9, i => i = 0 ∧ ∃ g ∈ s.signature, ∀ u ∈ (s.duties[g.probeDuty]).duty, u.profile.reply = none
  -- check 9
  | 10, i => RuleAt s i fun r => ∃ k : Fin 8, r.groups.getLsbD k.val = true ∧ (s.groups[k]).inUse = false
  | _, _ => False

/-- The table a step of the check names: STATION 0, RULE 1, DUTY 2, SIGNATURE 3 (R5, R200). -/
def offenceTable : Nat → Byte
  | 0 => 0
  | 3 | 5 | 7 | 8 => 2
  | 9 => 3
  | _ => 1

/-- The first offence in the order of the check: no earlier step has one, and no lower index has one at its step (R5). -/
structure FirstOffence (s : State) (step i : Nat) : Prop where
  offends : Offends s step i
  earlier : ∀ k, k < step → ∀ j, ¬Offends s k j
  lower : ∀ j, j < i → ¬Offends s step j

/-- The profile passes the nine checks. -/
def ProfileOk (s : State) : Prop := ∀ step i, ¬Offends s step i

/-! ### Requests -/

/-- The kinds of request each proxy state accepts, by their codes (R1, 11.4). -/
def acceptedKinds : ProxyState → List Nat
  | .idle => [0x01, 0x02, 0x03, 0x04, 0x05, 0x06, 0x07, 0x08, 0x09, 0x0A, 0x0B, 0x0C, 0x12, 0x13]
  | .proxy => [0x0D, 0x12, 0x13]
  | .waking => [0x0D, 0x12, 0x13]
  | .handback => [0x12, 0x13]
  | .report => [0x0E, 0x0F, 0x10, 0x11, 0x12, 0x13]

/-- The one size of a request's body where R200 gives one, by the kind's code. -/
def bodySize : Nat → Option Nat
  | 0x01 => some 22
  | 0x03 => some 9
  | 0x08 => some 48
  | 0x09 => some 15
  | 0x0A => some 11
  | 0x0B | 0x0C | 0x0D | 0x0E | 0x0F | 0x10 | 0x11 | 0x12 | 0x13 => some 0
  | _ => none

/-- A reply with status OK and no field clamped. -/
def okReply (kind tag : Byte) (body : List Byte) : Reply :=
  { kind := kind, tag := tag, status := .ok, clamped := false, dropped := false, body := body }

/-- A reply that refuses a request. -/
def refusal (kind tag : Byte) (st : Status) (body : List Byte) : Reply :=
  { kind := kind, tag := tag, status := st, clamped := false, dropped := false, body := body }

/-- What a refusal's body holds (R196): the pool's free bytes for Put Template, nothing for the others. -/
def refusalBody (s : State) (kind : Byte) : List Byte := if kind = 0x05 then bytesOfNat 2 (8192 - poolUsed s) else []

/-! ### Bodies as carried: clamping and the order of faults (R195) -/

/-- A compare item whose fields fit the bytes that carry them (R200). -/
def CompareItem.Carried (c : CompareItem) : Prop := c.offset < 65536 ∧ c.bytes.length < 256

/-- What is stored for a carried compare item (R32, R104): the offset clamped, at most eight value and mask bytes, and one
of each for an item carried without any, whatever they are (log 7). -/
structure CompareItem.StoredAs (c t : CompareItem) : Prop where
  offset : t.offset = min 1513 c.offset
  bytes : c.bytes ≠ [] → t.bytes = c.bytes.take 8
  free : c.bytes = [] → t.bytes.length = 1

/-- What is stored for a carried list of compare items: each in its place. -/
structure ItemsStored (carried stored : List CompareItem) : Prop where
  length : stored.length = carried.length
  each : ∀ x ∈ carried.zip stored, x.1.StoredAs x.2

/-- `b` ends exactly after the given numbers of compare items, `n` and then `m` (R200). -/
def EndsAfterItems (b : List Byte) (n m : Nat) : Prop :=
  ∃ items : List CompareItem, items.length = n + m ∧ (∀ c ∈ items, c.Carried) ∧ b = items.flatMap itemBody

/-- A patch whose operands fit the bytes that carry them (R200). -/
def Patch.Carried : Patch → Prop
  | .copy source dest count => source < 65536 ∧ dest < 65536 ∧ count < 256
  | .ownLink dest => dest < 65536
  | .fillEntry dest _ => dest < 65536
  | .setMasked dest _ _ => dest < 65536
  | .counter dest width => dest < 65536 ∧ width < 256
  | .length dest base => dest < 65536 ∧ base < 65536
  | .sum16 start stop store _ addrA addrB _ _ =>
    start < 65536 ∧ stop < 65536 ∧ store < 65536 ∧ addrA < 65536 ∧ addrB < 65536

/-- A patch with its operands clamped (R68, R69). -/
def Patch.clamped : Patch → Patch
  | .copy source dest count => .copy (min 1513 source) (min 1513 dest) (max 1 (min 64 count))
  | .ownLink dest => .ownLink (min 1513 dest)
  | .fillEntry dest source => .fillEntry (min 1513 dest) source
  | .setMasked dest data mask => .setMasked (min 1513 dest) data mask
  | .counter dest width => .counter (min 1513 dest) (max 1 (min 4 width))
  | .length dest base => .length (min 1513 dest) (min 1514 base)
  | .sum16 start stop store pseudo addrA addrB protocol zeroAsOnes =>
    .sum16 (min 1514 start) (min 1514 stop) (min 1513 store) pseudo (min 1513 addrA) (min 1513 addrB) protocol zeroAsOnes

/-- A rule whose fields fit the bytes that carry them, with the address reference a CLAIM must have (R32, R200). -/
structure Rule.Carried (r : Rule) : Prop where
  items : r.items.length ≤ 4 ∧ ∀ c ∈ r.items, c.Carried
  addrRef : ∀ a ∈ r.addrRef, a.offset < 65536
  claimantOffset : r.claimantOffset < 65536
  weight : r.weight < 65536
  claim : r.action = .claim → r.addrRef.isSome = true

/-- A rule with its offsets clamped and its items as stored (R32). -/
def Rule.clampedWith (items : List CompareItem) (r : Rule) : Rule :=
  { r with
    items := items
    addrRef := r.addrRef.map fun a => { a with offset := min 1513 a.offset }
    claimantOffset := min 1513 r.claimantOffset }

/-- A pattern whose fields fit the bytes that carry them (R200). -/
structure Pattern.Carried (p : Pattern) : Prop where
  items : p.items.length ≤ 4 ∧ ∀ c ∈ p.items, c.Carried
  echo : ∀ e ∈ p.echo, e.offset < 65536 ∧ e.width < 256

/-- What is stored for a carried pattern (R104). -/
def PatternStored : Option Pattern → Option Pattern → Prop
  | none, none => True
  | some p, some q => ItemsStored p.items q.items ∧
      q.echo = p.echo.map fun e => { offset := min 1513 e.offset, width := max 1 (min 4 e.width) }
  | _, _ => False

/-- A capture with its fields clamped (R103, R104). -/
def Capture.clamped (c : Capture) : Capture :=
  { c with
    offset := min 1513 c.offset
    target := match c.target with
      | .interval n lo hi => .interval (max 1 (min 256 n)) (max 1 (min 604800 lo)) (max 1 (min 604800 hi))
      | .counter => .counter }

/-- A duty's profile whose fields fit the bytes that carry them, without the combinations R104 refuses (R200). -/
structure DutyProfile.Carried (p : DutyProfile) : Prop where
  firstDelay : p.firstDelay < 4294967296
  interval : p.interval < 4294967296
  repeatCount : p.repeatCount < 65536
  reply : ∀ q ∈ p.reply, q.Carried
  reject : ∀ q ∈ p.reject, q.Carried
  replyWindow : p.replyWindow < 65536
  startupTries : p.startupTries < 256
  runTries : p.runTries < 256
  backoffBase : p.backoffBase < 65536
  roundsLimit : p.roundsLimit < 256
  weight : ∀ lane w, p.failure = .wake lane w → w < 65536
  capture : ∀ c ∈ p.capture, c.offset < 65536 ∧ (c.width = 1 ∨ c.width = 2 ∨ c.width = 4) ∧
    ∀ n lo hi, c.target = .interval n lo hi → n < 65536 ∧ lo < 4294967296 ∧ hi < 4294967296 ∧
      max 1 (min 604800 lo) ≤ max 1 (min 604800 hi)
  needs_reply : p.reject.isSome = true ∨ p.capture.isSome = true → p.reply.isSome = true

/-- A duty's profile with its fields clamped and its patterns as stored (R104). -/
def DutyProfile.clampedWith (reply reject : Option Pattern) (p : DutyProfile) : DutyProfile :=
  { p with
    firstDelay := min 604800 p.firstDelay
    interval := max 1 (min 604800 p.interval)
    reply := reply
    reject := reject
    replyWindow := max 10 (min 30000 p.replyWindow)
    startupTries := max 1 (min 4 p.startupTries)
    runTries := max 1 (min 4 p.runTries)
    backoffBase := max 1 (min 3600 p.backoffBase)
    roundsLimit := min 7 p.roundsLimit
    capture := p.capture.map Capture.clamped }

/-- The run-time state of a duty after Put Duty (R105); tries allowed is the model's choice (log 11). -/
def DutyProfile.newRun (p : DutyProfile) : DutyRun where
  state := .waiting
  pending := none
  void := false
  firstRun := true
  triesAllowed := p.startupTries
  triesUsed := 0
  failedRounds := 0
  runsCompleted := 0
  counter := p.counterInit
  capturedInterval := none
  lastCapture := none
  lastOutcome := .none
  timer := none

/-- A lane or multiplier byte clamped into 0..7 (R195). -/
def clampLane (x : Byte) : Fin 8 := ⟨min 7 x.toNat, by omega⟩

/-- The byte at an offset of a body, where the body reaches it, has a property (R200: a field past the end is not examined). -/
def ByteAt (b : List Byte) (off : Nat) (bad : Nat → Prop) : Prop := ∃ v ∈ b[off]?, bad v.toNat

/-- The byte of an optional id, or of a code in an optional field, whose presence byte is set, has a property. -/
def OptByteAt (b : List Byte) (presence off : Nat) (bad : Nat → Prop) : Prop :=
  ByteAt b presence (· ≠ 0) ∧ ByteAt b off bad

/-- The first fault of a list in the order of a request's rule. -/
def FirstFault : List (Status × Prop) → Status → Prop
  | [], _ => False
  | (st, bad) :: rest, x => (bad ∧ x = st) ∨ (¬bad ∧ FirstFault rest x)

/-- The faults of Put Address but DUPLICATE (R47). -/
def addressFaults (b : List Byte) : List (Status × Prop) :=
  [(.badIndex, ByteAt b 0 (16 ≤ ·)),
   (.badKind, ByteAt b 1 (2 < ·) ∨ OptByteAt b 1 2 (1 < ·) ∨ OptByteAt b 1 3 (1 < ·)),
   (.badLength, b.length < 2 ∨ (ByteAt b 1 (· = 1) ∧ b.length ≠ 9) ∨ (ByteAt b 1 (· = 2) ∧ b.length ≠ 21))]

/-- The faults of Put Rule (R32). -/
def ruleFaults (b : List Byte) : List (Status × Prop) :=
  [(.badIndex, ByteAt b 0 (32 ≤ ·) ∨ OptByteAt b 15 16 (48 ≤ ·) ∨ OptByteAt b 17 18 (32 ≤ ·)),
   (.badKind, ByteAt b 11 (4 < ·) ∨ ByteAt b 14 (1 < ·) ∨ OptByteAt b 7 10 (fun v => v ≠ 1 ∧ v ≠ 2)),
   (.badLength, b.length < 23 ∨ ByteAt b 22 (4 < ·) ∨ ¬EndsAfterItems (b.drop 23) (readNat b 22 1) 0),
   (.badValue, ByteAt b 11 (· = 3) ∧ ByteAt b 7 (· = 0))]

/-- A patch record's code that is none of its named values: patch kind, pseudo-header kind, entry form (R69). -/
def PatchKindBad (p : List Byte) : Prop :=
  ByteAt p 0 (fun k => k = 0 ∨ 7 < k) ∨ (ByteAt p 0 (· = 7) ∧ ByteAt p 7 (2 < ·)) ∨
    (ByteAt p 0 (· = 3) ∧ ByteAt p 3 (1 < ·))

/-- The faults of Put Patch List (R69), which reads the patches with the loaded flag set alone. -/
def patchListFaults (b : List Byte) : List (Status × Prop) :=
  let loaded := ByteAt b 1 (· ≠ 0)
  let someRecord (bad : List Byte → Prop) := loaded ∧ ∃ k, k < readNat b 2 1 ∧ bad (slice b (3 + 16 * k) 16)
  [(.badIndex, ByteAt b 0 (32 ≤ ·)),
   (.badLength, b.length < 2 ∨ (loaded ∧ (b.length < 3 ∨ 8 < readNat b 2 1 ∨ b.length ≠ 3 + 16 * readNat b 2 1))),
   (.badKind, someRecord PatchKindBad),
   (.badIndex, someRecord fun p => ByteAt p 0 (· = 3) ∧ ByteAt p 3 (· = 0) ∧ ByteAt p 4 (16 ≤ ·)),
   (.badValue, someRecord fun p => ByteAt p 0 (· = 7) ∧ min 1514 (readNat p 3 2) < min 1514 (readNat p 1 2))]

/-- How many compare items the pattern head at an offset calls for; an absent pattern none (R200). -/
def itemCount (b : List Byte) (off : Nat) : Nat := if readNat b off 1 = 0 then 0 else readNat b (off + 1) 1

/-- The faults of Put Duty (R104), which reads the profile with the in-use flag set alone. -/
def dutyFaults (b : List Byte) : List (Status × Prop) :=
  let used := ByteAt b 1 (· ≠ 0)
  [(.badIndex, ByteAt b 0 (12 ≤ ·) ∨ (used ∧ (ByteAt b 2 (48 ≤ ·) ∨ OptByteAt b 3 4 (32 ≤ ·)))),
   (.badKind, used ∧ (ByteAt b 23 (2 < ·) ∨ OptByteAt b 27 31 (1 < ·))),
   (.badLength, b.length < 2 ∨ (used ∧ (b.length < 59 ∨ 4 < itemCount b 47 ∨ 4 < itemCount b 53 ∨
      ¬EndsAfterItems (b.drop 59) (itemCount b 47) (itemCount b 53)))),
   (.badValue, used ∧ ((ByteAt b 47 (· = 0) ∧ (ByteAt b 53 (· ≠ 0) ∨ ByteAt b 27 (· ≠ 0))) ∨
      OptByteAt b 27 30 (fun w => w ≠ 1 ∧ w ≠ 2 ∧ w ≠ 4) ∨
      (OptByteAt b 27 31 (· = 0) ∧ max 1 (min 604800 (readNat b 38 4)) < max 1 (min 604800 (readNat b 34 4)))))]

/-! ### Frames -/

/-- A destination class is the one R27 gives a normalised frame. -/
def DestIs (s : State) (f : Frame) : DestClass → Prop
  | .own => f.take 6 = bytesOfBits 6 s.station.ownAddr
  | .broadcast => f.take 6 ≠ bytesOfBits 6 s.station.ownAddr ∧ f.take 6 = List.replicate 6 0xFF
  | .group set =>
    f.take 6 ≠ bytesOfBits 6 s.station.ownAddr ∧ f.take 6 ≠ List.replicate 6 0xFF ∧ (f.getD 0 0).getLsbD 0 = true ∧
      set ≠ 0 ∧ ∀ k : Fin 8, (set.getLsbD k.val = true ↔ (s.groups[k]).inUse = true ∧
        f.take (s.groups[k]).matchLen = (bytesOfBits 6 (s.groups[k]).addr).take (s.groups[k]).matchLen)

/-- A compare item passes on a frame (R34). -/
def ItemPasses (c : CompareItem) (f : Frame) : Prop :=
  c.offset + c.bytes.length ≤ f.length ∧
    ∀ k, k < c.bytes.length →
      f.getD (c.offset + k) 0 &&& (c.bytes.getD k (0, 0)).2 = (c.bytes.getD k (0, 0)).1 &&& (c.bytes.getD k (0, 0)).2

/-- A pattern matches a frame with a run counter (R113). -/
def PatternMatches (p : Pattern) (counter : BitVec 32) (f : Frame) : Prop :=
  (∀ c ∈ p.items, ItemPasses c f) ∧
    ∀ e ∈ p.echo, e.offset + e.width ≤ f.length ∧
      (f.drop e.offset).take e.width = (bytesOfBits 4 counter).drop (4 - e.width)

/-- A rule passes on a normalised frame of a destination class, with its matched entry (R33 to R36). -/
structure RulePasses (s : State) (r : Rule) (c : DestClass) (f : Frame) (m : Option (Fin 16)) : Prop where
  inUse : r.inUse = true
  dest : match c with
    | .own => r.destOwn = true
    | .broadcast => r.destBroadcast = true
    | .group set => ∃ k : Fin 8, set.getLsbD k.val = true ∧ r.groups.getLsbD k.val = true
  type : ∀ t ∈ r.ethertype, (f.drop 12).take 2 = bytesOfBits 2 t
  items : ∀ i ∈ r.items, ItemPasses i f
  ref : match r.addrRef with
    | none => m = none
    | some a => (r.action = .claim → r.claimantOffset + 6 ≤ f.length) ∧
        ∃ i e, m = some i ∧ s.entries[i] = some e ∧ e.value.kind = a.kind ∧ a.offset + a.kind.size ≤ f.length ∧
          (f.drop a.offset).take a.kind.size = e.value.bytes ∧ (e.state ≠ .lost ∨ r.action = .claim)

/-- A received frame that gets past the destination stage in PROXY or WAKING: its normalised form and its class. -/
structure Arrives (s : State) (frame f : Frame) (c : DestClass) : Prop where
  active : s.active = true
  normal : normalise frame = some (f, s.station.vlan)
  dest : destClass s f = some c

/-- The state once a frame is counted as received (R22) and, past the destination stage, as load (R28). -/
def entered (c : DestClass) (s : State) : State :=
  { s with
    stats := { s.stats with received := min (s.stats.received + 1) 4294967295 }
    windowCount := if c = .own then s.windowCount else min (s.windowCount + 1) 65535 }

/-! ### Duties -/

/-- A duty's run-time state replaced, where the duty is in use. -/
def withRun (d : Fin 12) (r : DutyRun) (s : State) : State :=
  { s with
    duties := s.duties.set d
      { s.duties[d] with duty := (s.duties[d]).duty.map fun u => { u with run := r } } }

/-- A duty has leave to run (R106). -/
def Leave (s : State) (d : Fin 12) : Prop := s.net = .attached ∨ (s.net = .checking ∧ (s.duties[d]).probe = true)

/-- A duty's patch list names a LOST entry by index (R61, R131). -/
def NamesLost (s : State) (list : Option (Fin 32)) : Prop :=
  ∃ dest i e, Patch.fillEntry dest (.index i) ∈ listOf s list ∧ s.entries[i] = some e ∧ e.state = .lost

/-- Where a duty goes when its run is over and counted (R119): WAITING for its interval, or DONE. -/
def rescheduled (p : DutyProfile) (r : DutyRun) : DutyRun :=
  if p.repeatCount = 65535 ∨ r.runsCompleted < p.repeatCount + 1 then
    { r with
      state := .waiting
      pending := none
      void := false
      timer := some (1000 * r.capturedInterval.getD p.interval) }
  else { r with state := .done, pending := none, void := false, timer := none }

/-- A run counted as a success (R118), before its capture. -/
def succeeded (r : DutyRun) : DutyRun :=
  { r with runsCompleted := min (r.runsCompleted + 1) 4294967295, failedRounds := 0, lastOutcome := .success }

/-- The capture of a run that succeeded by a reply frame (R120 to R122). -/
def captured (p : DutyProfile) (f : Frame) (r : DutyRun) : DutyRun :=
  match p.capture with
  | none => r
  | some c =>
    if f.length < c.offset + c.width then r
    else
      let v := natOfBytes ((f.drop c.offset).take c.width)
      match c.target with
      | .counter => { r with lastCapture := some v, counter := BitVec.ofNat 32 v }
      | .interval n lo hi =>
        let q := v * n / 256
        { r with lastCapture := some v, capturedInterval := some (if q < lo then lo else if hi < q then hi else q) }

/-- A duty that loses its leave to run at entry into FOREIGN (R130, R145): QUEUED is voided, AWAITING is deferred. -/
def withoutLeave (r : DutyRun) : DutyRun :=
  if r.state = .queued then { r with void := true }
  else if r.state = .awaiting then { r with state := .deferred, pending := some .try_, void := false, timer := none }
  else r

/-- The round of a duty fails outside CHECKING's probe (R116): BACKOFF for the base times the factor of R103, or EXHAUSTED when
the rounds limit is reached. -/
def failedRound (p : DutyProfile) (r : DutyRun) : DutyRun :=
  let rounds := min (r.failedRounds + 1) 255
  if p.roundsLimit ≠ 0 ∧ p.roundsLimit ≤ rounds then
    { r with failedRounds := rounds, lastOutcome := .exhausted, timer := none }
  else
    { r with
      state := .backoff
      pending := none
      void := false
      failedRounds := rounds
      timer := some (p.backoffBase * [1, 2, 3, 4, 6, 8, 12, 16].getD p.backoffMul.val 16 * 1000) }

/-- A duty's run ended by a failure (R124 to R126), with its last outcome and failed rounds already as they stand. -/
def failedRun (p : DutyProfile) (r : DutyRun) : DutyRun :=
  match p.failure with
  | .wake _ _ => { r with state := .failed, pending := none, void := false, timer := none }
  | .suspend => { r with state := .suspended, pending := none, void := false, timer := none }
  | .continueRuns => rescheduled p { r with runsCompleted := min (r.runsCompleted + 1) 4294967295, failedRounds := 0 }

/-- The weight a failure action delivers: WAKE's, none for the others (R124 to R126). -/
def failureWeight (p : DutyProfile) (s : State) : State :=
  match p.failure with
  | .wake lane weight => addWeight lane weight s
  | _ => s

/-! ### Events -/

/-- The commands that reset the part (R19). -/
def resetsPart : Instr → Bool
  | .powerOn | .resetPin | .resetPart _ => true
  | _ => false

end Sys2Proof.Machine
end

