-- ==== Sys2Proof/Certificates/Slice0/Obligations.lean ====
section
/-! DEFINITION. The statements for the provers. A statement about an invariant takes a state that satisfies `Inv`, which
`Reset_satisfies_the_invariants` says of the state after reset. -/

open Sys2Proof Sys2Proof.Machine

/-! ### The step and the commands as a whole -/

/-- One step takes the command at the front of the queue and runs it on the state with the queue's rest; with an empty queue the
block idles. Both are the model's own form of a block (log 1). -/
def Obligations.Step_runs_the_front_command : Prop :=
  (∀ (c : Instr) (rest : List Instr) (s : State),
    step { s with pending := c :: rest } = exec c { s with pending := rest }) ∧
  ∀ s : State, s.pending = [] → step s = .next s

/-- Every command, from every state, ends in a next state: no rule stops the part, as the model reads the spec (log 21, DEDUCED). It
leaves the queue of waiting commands as it was, resets too: that queue is the model's own, and its keeping the model's choice
(log 1, log 10). -/
def Obligations.Every_command_completes : Prop :=
  ∀ (c : Instr) (s : State), ∃ t, exec c s = .next t ∧ t.pending = s.pending

/-! ### Bytes at the two ports -/

/-- What a Control Link transaction decodes to is the command it encodes, for every well-formed command of the Control Link
(R188 to R190, R200, 11.4). -/
def Obligations.Link_transactions_decode_to_their_commands : Prop :=
  ∀ (i : Instr) (bytes : List Byte), i.wellFormed = true → i.encodeLink = some bytes → linkTransaction bytes = i

/-- What a Frame Port record decodes to is the command it encodes, for every well-formed record of the network controller
(R200, R201). -/
def Obligations.Port_records_decode_to_their_commands : Prop :=
  ∀ (i : Instr) (bytes : List Byte), i.wellFormed = true → i.encodePort = some bytes → portRecord bytes = some i

/-! ### Invariants -/

/-- The state after reset satisfies every invariant. -/
def Obligations.Reset_satisfies_the_invariants : Prop := Inv State.reset

/-- Every step keeps every stored profile field in its range, whatever the requests carry (R195, R4, R26, R32, R68, R103, R136,
R149, R162), and the Template Pool within its limits (R65, R66). -/
def Obligations.Step_keeps_profile_ranges : Prop :=
  ∀ s t : State, Inv s → step s = .next t → RangesInv t ∧ PoolInv t

/-- Every step keeps the Transmit Queue's limits, its one entry in flight and its service (R85, R86, R98), each duty's place in
it (R109, R93), and 8 entries while a duty is BLOCKED (R90). -/
def Obligations.Step_keeps_the_transmit_queue : Prop :=
  ∀ s t : State, Inv s → step s = .next t → QueueInv t ∧ DutyQueueInv t ∧ BlockedInv t

/-- Every step keeps the duties' run-time state consistent: pending step, void mark, tries, failed rounds, timer (R105, R108,
R115, R116). -/
def Obligations.Step_keeps_the_duties : Prop :=
  ∀ s t : State, Inv s → step s = .next t → DutyInv t

/-- Every step keeps the Address Table consistent (R46, R48, R49, R50, R52), the timers' rule (R3) and the Wake Unit's: the WAKE
line, the reason set against the proxy state, the first reason, the re-signal count (R9, R170, R171, R173). -/
def Obligations.Step_keeps_the_address_table_and_the_wake_unit : Prop :=
  ∀ s t : State, Inv s → step s = .next t → EntryInv t ∧ TimersInv t ∧ WakeInv t

/-- Every step keeps the budget between the smallest and the largest point of the curve and spent within the budget (R155), the
storm vote below 3 (R156), the Held Frame Queue's limits and order (R178, R180), the counts (R45, R95) and the size of replies (R197). -/
def Obligations.Step_keeps_the_governor_held_frames_and_counts : Prop :=
  ∀ s t : State, Inv s → step s = .next t → GovernorInv t ∧ HeldInv t ∧ StatsInv t ∧ ReplyInv t

/-- Every step keeps the lifecycle's facts: owner, report, handback, what the report says of the Reclaim (R13, R18, R183, R184),
and the Network Check's: link, signature, probe flag (R136, R137, R139). -/
def Obligations.Step_keeps_lifecycle_and_network : Prop :=
  ∀ s t : State, Inv s → step s = .next t → LifecycleInv t ∧ NetInv t

/-! ### Rules over all commands -/

/-- The proxy state changes only along the transition table of R1: by Assume, the wake decision, Reclaim, the end of handback,
Rearm, Detach or a reset; and WAKE rises only at the wake decision or a gap's expiry (R171). -/
def Obligations.Proxy_state_moves_along_the_table : Prop :=
  ∀ (c : Instr) (s t : State), Inv s → exec c s = .next t →
    (s.proxy ≠ t.proxy →
      (s.proxy = .idle ∧ t.proxy = .proxy ∧ ∃ m, c = .assume m) ∨
      (s.proxy = .proxy ∧ t.proxy = .waking ∧ t.wake = true ∧ t.reasons ≠ 0) ∨
      ((s.proxy = .proxy ∨ s.proxy = .waking) ∧ (t.proxy = .handback ∨ t.proxy = .report) ∧ ∃ m, c = .reclaim m) ∨
      (s.proxy = .handback ∧ t.proxy = .report ∧ ∃ r, c = .transmitResult r) ∨
      (s.proxy = .report ∧ t.proxy = .idle ∧ ((∃ m, c = .rearm m) ∨ ∃ m, c = .detach m)) ∨
      (t.proxy = .idle ∧ resetsPart c = true)) ∧
    (s.wake = false → t.wake = true → (s.proxy = .proxy ∧ t.proxy = .waking) ∨ c = .gapExpiry)

/-- What one command sends on the Frame Port (R98): records are only added; at most one of them is a frame, it is the frame of
the entry now in flight, the owner is then PART, and while a frame was in flight only its transmit result lets another out. -/
def Obligations.Frames_are_sent_one_at_a_time : Prop :=
  ∀ (c : Instr) (s t : State), Inv s → exec c s = .next t →
    ∃ out, t.portOut = s.portOut ++ out ∧
      ∀ f, PortRecord.frameToSend f ∈ out →
        (∀ g, PortRecord.frameToSend g ∈ out → g = f) ∧
        (out.countP fun r => r == .frameToSend f) = 1 ∧
        t.owner = .part ∧ (∃ e ∈ t.queue, e.inFlight = true ∧ e.frame = f) ∧
        (someInFlight s.queue = true → ∃ r, c = .transmitResult r)

/-- Outside IDLE the profile does not change, but by Detach or a reset (R83): the station record, groups, rules, templates, patch
lists, curve, lane settings, signature, and the profile parts of entries and duties. -/
def Obligations.Profile_changes_in_idle_alone : Prop :=
  ∀ (c : Instr) (s t : State), s.proxy ≠ .idle → resetsPart c = false → (∀ m, c ≠ .detach m) → exec c s = .next t →
    t.station = s.station ∧ t.groups = s.groups ∧ t.rules = s.rules ∧ t.pool = s.pool ∧ t.patchLists = s.patchLists ∧
    t.curve = s.curve ∧ t.laneSettings = s.laneSettings ∧ t.signature = s.signature ∧
    (∀ i : Fin 16, (t.entries[i]).map (fun e => (e.value, e.loaded, e.mode, e.tentativeTime)) =
      (s.entries[i]).map fun e => (e.value, e.loaded, e.mode, e.tentativeTime)) ∧
    ∀ d : Fin 12, (t.duties[d]).probe = (s.duties[d]).probe ∧
      (t.duties[d]).duty.map Duty.profile = (s.duties[d]).duty.map Duty.profile

/-- From the Reclaim to the next Rearm, Detach or reset the blocks hold still (R10, R14, R175): lanes, reasons, re-signal count,
network state, duties, entries and the Load Governor; in REPORT also the counts, elapsed time and the report. -/
def Obligations.Handback_and_report_hold_still : Prop :=
  ∀ (c : Instr) (s t : State), s.proxy = .handback ∨ s.proxy = .report → t.proxy ≠ .idle → exec c s = .next t →
    t.lanes = s.lanes ∧ t.reasons = s.reasons ∧ t.firstReason = s.firstReason ∧ t.resignals = s.resignals ∧
    t.net = s.net ∧ t.duties = s.duties ∧ t.entries = s.entries ∧ t.budget = s.budget ∧ t.spent = s.spent ∧
    t.windowCount = s.windowCount ∧ t.stormVote = s.stormVote ∧
    (s.proxy = .report → t.stats = s.stats ∧ t.matchCounts = s.matchCounts ∧ t.elapsed = s.elapsed ∧
      t.report = s.report ∧ t.owner = s.owner ∧ t.portOut = s.portOut)

/-! ### Resets -/

/-- POWER_ON and RESET_PIN give the state R19 and R20 describe, and send OWNER HOST. The host-initiated flag, which those rules do
not name, is clear by the model's choice (log 9). What the model keeps of its own (the waiting commands, the logs of what was
sent, the count of free values; log 8, log 10) stays. -/
def Obligations.Reset_pin_and_power_on_reset_the_part : Prop :=
  ∀ s : State, ∃ t, exec .powerOn s = .next t ∧ exec .resetPin s = .next t ∧
    t.proxy = .idle ∧ t.wake = false ∧ t.elapsed = 0 ∧ t.hostInitiated = false ∧ t.owner = .host ∧
    t.linkState = .unknown ∧ t.net = .linkDown ∧ t.reply = none ∧ t.readyPending = true ∧ t.handbackDonePending = false ∧
    t.attn = true ∧
    t.station = { ownAddr := 0, vlan := none, settleHold := 0, contestWindow := 10, conflictLane := 3,
                  conflictWeight := 65535, wakePatience := 30, decayPeriod := 1, totalThreshold := 0 } ∧
    (∀ i : Fin 16, t.entries[i] = none) ∧ (∀ i : Fin 8, (t.groups[i]).inUse = false) ∧
    (∀ i : Fin 32, (t.rules[i]).inUse = false) ∧ t.pool = [] ∧ (∀ i : Fin 32, t.patchLists[i] = none) ∧
    (∀ d : Fin 12, t.duties[d] = { probe := false, duty := none }) ∧ t.signature = none ∧
    (∀ k : Fin 9, t.curve.points[k] = 32) ∧ t.curve.ramp = 8 ∧ t.curve.stormLevel = 0 ∧ t.curve.stormLane = 0 ∧
    t.curve.stormWeight = 0 ∧
    (∀ j : Fin 8, t.laneSettings[j] = { threshold := 0, mode := .shift, shift := 0, step := 0 }) ∧
    t.stats = Stats.zero ∧ (∀ i : Fin 32, t.matchCounts[i] = 0) ∧ t.queue = [] ∧ t.held = [] ∧ t.report = none ∧
    t.budget = 32 ∧ t.spent = 0 ∧ t.windowCount = 0 ∧ t.stormVote = 0 ∧ (∀ j : Fin 8, t.lanes[j] = 0) ∧
    t.reasons = 0 ∧ t.firstReason = none ∧ t.resignals = 0 ∧
    t.windowTimer = none ∧ t.decayTimer = none ∧ t.settleTimer = none ∧ t.patienceTimer = none ∧ t.gapTimer = none ∧
    t.portOut = s.portOut ++ [.owner .host] ∧ t.linkOut = s.linkOut ∧ t.freeCount = s.freeCount ∧ t.pending = s.pending

/-- Reset Part (R199): carried out only into an empty reply slot, in every proxy state, with the effects of the RESET pin and no
reply; dropped while a reply is unread; discarded when cut short. The RESET pin resets whatever the link holds. -/
def Obligations.Reset_Part_is_the_reset_by_request : Prop :=
  ∀ (s : State) (tag : Byte),
    (s.reply = none → exec (.resetPart (requestOf tag [])) s = exec .resetPin s) ∧
    (∀ r, s.reply = some r →
      exec (.resetPart (requestOf tag [])) s = .next { s with reply := some { r with dropped := true } }) ∧
    (∀ m : Request, m.complete = false → exec (.resetPart m) s = .next s) ∧
    ∃ t, exec .resetPin s = .next t ∧ t.proxy = .idle ∧ t.reply = none ∧ t.readyPending = true ∧
      t.handbackDonePending = false ∧ t.owner = .host ∧ t.net = .linkDown ∧ t.linkState = .unknown ∧ t.queue = [] ∧
      t.held = [] ∧ t.report = none ∧ t.wake = false ∧ t.elapsed = 0 ∧ t.pool = [] ∧ t.signature = none

/-! ### The Control Link -/

/-- READ (R193): the reply, else READY, else HANDBACK_DONE, else NONE is shifted out, then zero bytes; a message delivered whole is
removed, a READ that ends before its last byte removes nothing. -/
def Obligations.Read_delivers_the_preferred_message : Prop :=
  ∀ (n : Nat) (s : State),
    (∀ r, s.reply = some r →
      let msg := [0x80, r.kind, r.tag, r.status.code, flagByte r.clamped ||| (flagByte r.dropped <<< 1)]
        ++ bytesOfNat 2 r.body.length ++ r.body
      exec (.read n) s = .next
        { s with
          reply := if 7 + r.body.length ≤ n then none else some r
          linkOut := s.linkOut ++ [(msg ++ List.replicate (n - msg.length) 0).take n] }) ∧
    (s.reply = none → s.readyPending = true →
      exec (.read n) s = .next
        { s with
          readyPending := decide (n < 7)
          linkOut := s.linkOut ++ [(([0x81, 0, 0, 0, 0, 0, 0] : List Byte) ++ List.replicate (n - 7) 0).take n] }) ∧
    (s.reply = none → s.readyPending = false → s.handbackDonePending = true →
      exec (.read n) s = .next
        { s with
          handbackDonePending := decide (n < 7)
          linkOut := s.linkOut ++ [(([0x82, 0, 0, 0, 0, 0, 0] : List Byte) ++ List.replicate (n - 7) 0).take n] }) ∧
    (s.reply = none → s.readyPending = false → s.handbackDonePending = false →
      exec (.read n) s = .next { s with linkOut := s.linkOut ++ [List.replicate n 0] })

/-- What is not carried out. A complete request taken while a reply is unread, of whatever kind, only sets REQUEST_DROPPED on that
reply (R190, R191). A transaction that is neither WRITE nor READ (R188), a message cut short (R189) and a Frame Port record of an
unknown type or value (R201) change nothing. -/
def Obligations.Dropped_discarded_and_ignored_events : Prop :=
  (∀ (kind : Byte) (m : Request) (s : State) (r : Reply), m.complete = true → s.reply = some r →
    exec (requestOfKind kind m) s = .next { s with reply := some { r with dropped := true } }) ∧
  (∀ (kind : Byte) (m : Request) (s : State), m.complete = false → exec (requestOfKind kind m) s = .next s) ∧
  ∀ (s : State) (bytes : List Byte),
    exec (.otherTransaction bytes) s = .next s ∧ exec (.cutShortMessage bytes) s = .next s ∧
      exec (.badRecord bytes) s = .next s

/-- The examination every request goes through before its own rule (R190): a message bad in length, an unknown kind, a proxy state
that does not accept it (R1), a body not of its one size (R200). Each puts its status in the reply and changes nothing else. That a
Reset Part bad in length or with a body gets this reply too is the model's reading (log 14), and so are the free bytes in the reply
to a Put Template bad in length (log 15). -/
def Obligations.Requests_are_examined_in_order : Prop :=
  ∀ (kind : Byte) (m : Request) (s : State), m.complete = true → s.reply = none →
    ((1600 < m.stated.toNat ∨ m.stated.toNat < m.body.length) →
      exec (requestOfKind kind m) s = .next
        { s with reply := some (refusal kind m.tag .badLength (refusalBody s kind)) }) ∧
    (m.stated.toNat ≤ 1600 → m.stated.toNat = m.body.length →
      (inCatalogue kind = false →
        exec (requestOfKind kind m) s = .next { s with reply := some (refusal kind m.tag .badKind []) }) ∧
      (inCatalogue kind = true → kind.toNat ∉ acceptedKinds s.proxy →
        exec (requestOfKind kind m) s = .next
          { s with reply := some (refusal kind m.tag .wrongState (refusalBody s kind)) }) ∧
      (inCatalogue kind = true → kind.toNat ∈ acceptedKinds s.proxy →
        ∀ size ∈ bodySize kind.toNat, m.body.length ≠ size →
          exec (requestOfKind kind m) s = .next { s with reply := some (refusal kind m.tag .badLength []) }))

/-- Query Status (R198) replies in every state with the 29 bytes of R200 and changes nothing else. -/
def Obligations.Query_Status_reports_the_part_as_it_stands : Prop :=
  ∀ (s : State) (tag : Byte), s.reply = none →
    ∃ body, exec (.queryStatus (requestOf tag [])) s = .next { s with reply := some (okReply 0x12 tag body) } ∧
      body.length = 29 ∧ body.take 3 = [s.proxy.code, s.net.code, s.linkState.code] ∧
      slice body 3 4 = bytesOfNat 4 s.elapsed ∧ (∀ j : Fin 8, slice body (7 + 2 * j.val) 2 = bytesOfNat 2 s.lanes[j]) ∧
      slice body 23 4 = [oneByte s.budget, oneByte s.spent, oneByte s.queue.length, oneByte s.held.length] ∧
      slice body 27 2 = bytesOfNat 2 (s.held.map fun h => h.frame.length).sum

/-- Read Report (R183, R197) replies with the whole report as 646 bytes, each item where the layout of R200 puts it, and changes
nothing else. -/
def Obligations.Read_Report_returns_the_whole_report : Prop :=
  ∀ (s : State) (tag : Byte) (r : WakeReport), s.proxy = .report → s.report = some r → s.reply = none →
    ∃ body, exec (.readReport (requestOf tag [])) s = .next { s with reply := some (okReply 0x0E tag body) } ∧
      body.length = 646 ∧ slice body 0 2 = [r.proxyAtReclaim.code, flagByte r.hostInitiated] ∧
      slice body 2 4 = bytesOfNat 4 r.reclaimTime ∧ slice body 6 4 = bytesOfNat 4 r.completionTime ∧
      slice body 10 2 = bytesOfBits 2 r.reasons ∧ slice body 12 1 = [firstReasonCode r.firstReason] ∧
      slice body 13 4 = bytesOfNat 4 (r.firstReason.elim 0 FirstReason.time) ∧ slice body 17 1 = [oneByte r.resignals] ∧
      (∀ j : Fin 8, slice body (18 + 2 * j.val) 2 = bytesOfNat 2 r.lanes[j]) ∧ slice body 34 1 = [r.net.code] ∧
      (∀ i : Fin 16,
        (r.entries[i] = none → slice body (35 + 10 * i.val) 10 = [0, 0xFF, 0, 0, 0, 0, 0, 0, 0, 0]) ∧
        ∀ e, r.entries[i] = some e →
          slice body (35 + 10 * i.val) 4 =
            [match e.kind with | .short => 1 | .long => 2, e.state.code, oneByte e.conflicts,
              if e.claimant = none then 0 else 1] ∧
          slice body (39 + 10 * i.val) 6 = bytesOfBits 6 (e.claimant.getD 0)) ∧
      (∀ d : Fin 12,
        (r.duties[d] = none → slice body (195 + 22 * d.val) 22 = 0 :: 0xFF :: List.replicate 20 0) ∧
        ∀ u, r.duties[d] = some u →
          slice body (195 + 22 * d.val) 6 =
            [1, u.state.code, u.outcome.code, oneByte u.failedRounds, oneByte u.triesUsed,
              (if u.lastCapture = none then 0 else 1) + (if u.capturedInterval = none then 0 else 2)] ∧
          slice body (201 + 22 * d.val) 4 = bytesOfNat 4 u.runsCompleted ∧
          slice body (205 + 22 * d.val) 4 = bytesOfBits 4 u.counter ∧
          slice body (209 + 22 * d.val) 4 = bytesOfNat 4 (u.lastCapture.getD 0) ∧
          slice body (213 + 22 * d.val) 4 = bytesOfNat 4 (u.capturedInterval.getD 0)) ∧
      (∀ i : Fin 32, slice body (459 + 4 * i.val) 4 = bytesOfNat 4 r.matchCounts[i]) ∧
      slice body 587 56 =
        bytesOfNat 4 r.stats.received ++ bytesOfNat 4 r.stats.malformed ++ bytesOfNat 4 r.stats.foreignDest
          ++ bytesOfNat 4 r.stats.muted ++ bytesOfNat 4 r.stats.unmatched ++ bytesOfNat 4 r.stats.withheld
          ++ bytesOfNat 4 r.stats.overBudget ++ bytesOfNat 4 r.stats.holdRefused ++ bytesOfNat 4 r.stats.answersSent
          ++ bytesOfNat 4 r.stats.answersRefused ++ bytesOfNat 4 r.stats.queueFull
          ++ bytesOfNat 4 r.stats.essentialDrop ++ bytesOfNat 4 r.stats.linkDrop ++ bytesOfNat 4 r.stats.stormWindows ∧
      slice body 643 3 = oneByte r.heldRecords :: bytesOfNat 2 r.heldBytes

/-- Fetch Held (R181): in REPORT the oldest record leaves the head with its reply, or the reply is EMPTY and the queue is unchanged;
in any other state it is refused; over an unread reply it removes nothing. -/
def Obligations.Fetch_Held_takes_the_oldest_record : Prop :=
  ∀ (s : State) (tag : Byte),
    (∀ h rest, s.proxy = .report → s.reply = none → s.held = h :: rest →
      exec (.fetchHeld (requestOf tag [])) s = .next
        { s with
          held := rest
          reply := some (okReply 0x0F tag
            (bytesOfNat 4 h.time ++ [oneByte h.rule.val, oneByte rest.length] ++ bytesOfNat 2 h.frame.length ++ h.frame)) }) ∧
    (s.proxy = .report → s.reply = none → s.held = [] →
      exec (.fetchHeld (requestOf tag [])) s = .next { s with reply := some (refusal 0x0F tag .empty []) }) ∧
    (s.proxy ≠ .report → s.reply = none →
      exec (.fetchHeld (requestOf tag [])) s = .next { s with reply := some (refusal 0x0F tag .wrongState []) }) ∧
    ∀ r, s.reply = some r →
      exec (.fetchHeld (requestOf tag [])) s = .next { s with reply := some { r with dropped := true } }

/-! ### Loading the profile -/

/-- Set Station (R4): every 22-byte body is stored, each numeric field clamped to its range, and CLAMPED says whether one was; no
other part of the state changes. -/
def Obligations.Set_Station_stores_the_clamped_record : Prop :=
  ∀ (s : State) (tag : Byte) (b : List Byte), s.proxy = .idle → s.reply = none → b.length = 22 →
    exec (.setStation (requestOf tag b)) s = .next
      { s with
        station :=
          { ownAddr := BitVec.ofNat 48 (readNat b 0 6)
            vlan := if readNat b 6 1 = 0 then none else some (BitVec.ofNat 12 (max 1 (min 4094 (readNat b 7 2))))
            settleHold := min 5000 (readNat b 9 2)
            contestWindow := max 1 (min 60 (readNat b 11 1))
            conflictLane := ⟨min 7 (readNat b 12 1), by omega⟩
            conflictWeight := readNat b 13 2
            wakePatience := max 5 (min 300 (readNat b 15 2))
            decayPeriod := max 1 (min 60 (readNat b 17 1))
            totalThreshold := min 524280 (readNat b 18 4) }
        reply := some { okReply 0x01 tag [] with
          clamped := decide (
            (readNat b 6 1 ≠ 0 ∧ (readNat b 7 2 < 1 ∨ 4094 < readNat b 7 2)) ∨ 5000 < readNat b 9 2 ∨
            readNat b 11 1 < 1 ∨ 60 < readNat b 11 1 ∨ 7 < readNat b 12 1 ∨ readNat b 15 2 < 5 ∨ 300 < readNat b 15 2 ∨
            readNat b 17 1 < 1 ∨ 60 < readNat b 17 1 ∨ 524280 < readNat b 18 4) } }

/-- Put Address (R47, R48): an entry is stored at its loaded state with an empty conflict record, its tentative time clamped with
CLAMPED set, unless another in-use entry holds its value (DUPLICATE, nothing changed); kind NONE frees the entry; every other body
is refused with its first fault, nothing changed. -/
def Obligations.Put_Address_writes_one_entry : Prop :=
  ∀ (s : State) (tag : Byte), s.proxy = .idle → s.reply = none →
    (∀ (i : Fin 16) (v : NetAddr) (loaded : LoadedState) (mode : AnswerMode) (time : Nat), time < 256 →
      ((∀ j : Fin 16, j ≠ i → ∀ e ∈ s.entries[j], e.value ≠ v) →
        exec (.putAddress (requestOf tag (addressBody i v loaded mode time))) s = .next
          { s with
            entries := s.entries.set i (some
              { value := v, loaded := loaded, mode := mode, tentativeTime := max 1 (min 10 time),
                state := match loaded with | .tentative => .tentative | .defended => .defended,
                conflicts := 0, lastClaimant := none, tentativeTimer := none, contestTimer := none })
            reply := some { okReply 0x02 tag [] with clamped := decide (time < 1 ∨ 10 < time) } }) ∧
      ((∃ j : Fin 16, j ≠ i ∧ ∃ e, s.entries[j] = some e ∧ e.value = v) →
        exec (.putAddress (requestOf tag (addressBody i v loaded mode time))) s = .next
          { s with reply := some (refusal 0x02 tag .duplicate []) })) ∧
    (∀ (i : Fin 16) (rest : List Byte), rest.length ≤ 1598 →
      exec (.putAddress (requestOf tag (oneByte i.val :: 0 :: rest))) s = .next
        { s with entries := s.entries.set i none, reply := some (okReply 0x02 tag []) }) ∧
    ∀ b : List Byte, b.length ≤ 1600 → ∀ st, FirstFault (addressFaults b) st →
      exec (.putAddress (requestOf tag b)) s = .next { s with reply := some (refusal 0x02 tag st []) }

/-- Put Group (R26), Set Lanes (R163), Set Curve (R150) and Set Signature (R136): settings are stored as the layouts of R200 carry
them, each field clamped to its range with CLAMPED set; an index or code that names nothing is refused. Set Curve sets the budget to
the new P0 and replies with it; Set Signature moves the probe flag. That a Put Group with in use clear is stored in full, its match
length clamped with CLAMPED set like any other, is the model's reading (log 13, DEDUCED). -/
def Obligations.Settings_are_stored_as_carried : Prop :=
  ∀ (s : State) (tag : Byte), s.proxy = .idle → s.reply = none →
    ((∀ (i : Fin 8) (g : GroupEntry), g.matchLen < 256 →
        exec (.putGroup (requestOf tag (groupBody i g))) s = .next
          { s with
            groups := s.groups.set i { g with matchLen := max 1 (min 6 g.matchLen) }
            reply := some { okReply 0x03 tag [] with clamped := decide (g.matchLen < 1 ∨ 6 < g.matchLen) } }) ∧
      ∀ b : List Byte, b.length = 9 → 8 ≤ readNat b 0 1 →
        exec (.putGroup (requestOf tag b)) s = .next { s with reply := some (refusal 0x03 tag .badIndex []) }) ∧
    ((∀ v : Vector LaneSetting 8, (∀ j : Fin 8, (v[j]).threshold < 65536 ∧ (v[j]).shift < 256 ∧ (v[j]).step < 65536) →
        exec (.setLanes (requestOf tag (lanesBody v))) s = .next
          { s with
            laneSettings := Vector.ofFn fun j : Fin 8 => { v[j] with shift := min 16 (v[j]).shift }
            reply := some { okReply 0x08 tag [] with clamped := decide (∃ j : Fin 8, 16 < (v[j]).shift) } }) ∧
      ∀ b : List Byte, b.length = 48 → (∃ j : Fin 8, 1 < readNat b (6 * j.val + 2) 1) →
        exec (.setLanes (requestOf tag b)) s = .next { s with reply := some (refusal 0x08 tag .badKind []) }) ∧
    (∀ (c : Curve) (x : Byte), (∀ k : Fin 9, c.points[k] < 256) → c.ramp < 256 → c.stormLevel < 65536 →
        c.stormWeight < 65536 →
      exec (.setCurve (requestOf tag ((curveBody c).set 12 x))) s = .next
        { s with
          curve := { c with ramp := max 1 c.ramp, stormLevel := min 1023 c.stormLevel, stormLane := clampLane x }
          budget := c.points[0]
          reply := some { okReply 0x09 tag [oneByte c.points[0]] with
            clamped := decide (c.ramp < 1 ∨ 1023 < c.stormLevel ∨ 7 < x.toNat) } }) ∧
    (∀ (g : Signature) (x : Byte), g.weight < 65536 →
      exec (.setSignature (requestOf tag ((signatureBody (some g)).set 8 x))) s = .next
        { s with
          signature := some { g with lane := clampLane x }
          duties := Vector.ofFn fun d : Fin 12 => { s.duties[d] with probe := decide (g.probeDuty = d) }
          reply := some { okReply 0x0A tag [] with clamped := decide (7 < x.toNat) } }) ∧
    ∀ b : List Byte, b.length = 11 →
      (readNat b 0 1 = 0 → exec (.setSignature (requestOf tag b)) s = .next
        { s with
          signature := none
          duties := Vector.ofFn fun d : Fin 12 => { s.duties[d] with probe := false }
          reply := some (okReply 0x0A tag []) }) ∧
      (readNat b 0 1 ≠ 0 → 12 ≤ readNat b 7 1 →
        exec (.setSignature (requestOf tag b)) s = .next { s with reply := some (refusal 0x0A tag .badIndex []) })

/-- Put Rule (R32): a rule carried in the layout of R200 replaces the rule at its index and zeroes its match count, each numeric
field clamped to its range with CLAMPED set; a rule in range is stored as it is. The bytes stored for a compare item carried with
length 0 are the model's free bytes (log 7). That a body with in use clear is examined and stored in full (log 13), and that the
claimant offset and the class are stored, clamped and examined under every action (log 12), is the model's reading (DEDUCED). A
body with a fault is refused with its first fault, nothing changed. -/
def Obligations.Put_Rule_stores_the_rule : Prop :=
  ∀ (s : State) (tag : Byte), s.proxy = .idle → s.reply = none →
    (∀ (i : Fin 32) (r : Rule), r.InRange →
      exec (.putRule (requestOf tag (ruleBody i r))) s = .next
        { s with
          rules := s.rules.set i r
          matchCounts := s.matchCounts.set i 0
          reply := some (okReply 0x04 tag []) }) ∧
    (∀ (i : Fin 32) (r : Rule) (x : Byte), r.Carried → (ruleBody i r).length ≤ 1600 →
      ∃ (items : List CompareItem) (drawn : Nat) (clamped : Bool),
        ItemsStored r.items items ∧ (clamped = true ↔ r.clampedWith items ≠ r ∨ 7 < x.toNat) ∧
        exec (.putRule (requestOf tag ((ruleBody i r).set 19 x))) s = .next
          { s with
            rules := s.rules.set i { r.clampedWith items with lane := clampLane x }
            matchCounts := s.matchCounts.set i 0
            freeCount := drawn
            reply := some { okReply 0x04 tag [] with clamped := clamped } }) ∧
    ∀ b : List Byte, b.length ≤ 1600 → ∀ st, FirstFault (ruleFaults b) st →
      exec (.putRule (requestOf tag b)) s = .next { s with reply := some (refusal 0x04 tag st []) }

/-- Put Template (R66), its faults in their order, and the pool's free bytes in every reply. -/
def Obligations.Put_Template_loads_or_refuses : Prop :=
  ∀ (s : State) (tag : Byte) (id : Fin 48) (bytes : List Byte), s.reply = none → bytes.length < 1600 →
    (s.proxy ≠ .idle →
      exec (.putTemplate (requestOf tag (templateBody id bytes))) s = .next
        { s with reply := some (refusal 0x05 tag .wrongState (bytesOfNat 2 (8192 - poolUsed s))) }) ∧
    (s.proxy = .idle → bytes.length < 14 ∨ 1514 < bytes.length →
      exec (.putTemplate (requestOf tag (templateBody id bytes))) s = .next
        { s with reply := some (refusal 0x05 tag .badLength (bytesOfNat 2 (8192 - poolUsed s))) }) ∧
    (s.proxy = .idle → 14 ≤ bytes.length → bytes.length ≤ 1514 →
      ((∃ t ∈ s.pool, t.1 = id) →
        exec (.putTemplate (requestOf tag (templateBody id bytes))) s = .next
          { s with reply := some (refusal 0x05 tag .duplicate (bytesOfNat 2 (8192 - poolUsed s))) }) ∧
      ((∀ t ∈ s.pool, t.1 ≠ id) → 8192 - poolUsed s < bytes.length →
        exec (.putTemplate (requestOf tag (templateBody id bytes))) s = .next
          { s with reply := some (refusal 0x05 tag .noSpace (bytesOfNat 2 (8192 - poolUsed s))) }) ∧
      ((∀ t ∈ s.pool, t.1 ≠ id) → bytes.length ≤ 8192 - poolUsed s →
        exec (.putTemplate (requestOf tag (templateBody id bytes))) s = .next
          { s with
            pool := s.pool ++ [(id, bytes)]
            reply := some (okReply 0x05 tag (bytesOfNat 2 (8192 - poolUsed s - bytes.length))) })) ∧
    (s.proxy = .idle → ∀ k : Nat, 48 ≤ k → k < 256 →
      exec (.putTemplate (requestOf tag (oneByte k :: bytes))) s = .next
        { s with reply := some (refusal 0x05 tag .badIndex (bytesOfNat 2 (8192 - poolUsed s))) })

/-- Put Patch List (R68, R69): up to 8 patches carried in the layout of R200 become the list, in the order carried, each operand
clamped to its range with CLAMPED set; patches in range are stored as they are; with the loaded flag clear the list is unloaded.
That a SUM16's address offsets are clamped with CLAMPED set for pseudo-header kind NONE too is the model's reading (log 12, DEDUCED).
A body with a fault is refused with its first fault, nothing changed. -/
def Obligations.Put_Patch_List_stores_the_list : Prop :=
  ∀ (s : State) (tag : Byte), s.proxy = .idle → s.reply = none →
    (∀ (id : Fin 32) (list : List Patch), list.length ≤ 8 → (∀ p ∈ list, p.InRange) →
      exec (.putPatchList (requestOf tag (patchListBody id list))) s = .next
        { s with patchLists := s.patchLists.set id (some list), reply := some (okReply 0x06 tag []) }) ∧
    (∀ (id : Fin 32) (list : List Patch), list.length ≤ 8 → (∀ p ∈ list, p.Carried) →
      (∀ start stop store pseudo addrA addrB protocol zeroAsOnes,
        Patch.sum16 start stop store pseudo addrA addrB protocol zeroAsOnes ∈ list → min 1514 start ≤ min 1514 stop) →
      exec (.putPatchList (requestOf tag (patchListBody id list))) s = .next
        { s with
          patchLists := s.patchLists.set id (some (list.map Patch.clamped))
          reply := some { okReply 0x06 tag [] with clamped := decide (list.map Patch.clamped ≠ list) } }) ∧
    (∀ (id : Fin 32) (rest : List Byte), rest.length ≤ 1598 →
      exec (.putPatchList (requestOf tag (oneByte id.val :: 0 :: rest))) s = .next
        { s with patchLists := s.patchLists.set id none, reply := some (okReply 0x06 tag []) }) ∧
    ∀ b : List Byte, b.length ≤ 1600 → ∀ st, FirstFault (patchListFaults b) st →
      exec (.putPatchList (requestOf tag b)) s = .next { s with reply := some (refusal 0x06 tag st []) }

/-- Put Duty (R103 to R105): a duty carried in the layout of R200 is stored with the run-time state R105 gives and its probe flag
kept (tries allowed is the model's choice, log 11), each numeric field clamped to its range with CLAMPED set; a duty in range is
stored as it is; with the in-use flag clear the duty is freed. The bytes stored for a compare item carried with length 0 are the
model's free bytes (log 7). A body with a fault is refused with its first fault, nothing changed. -/
def Obligations.Put_Duty_stores_the_duty : Prop :=
  ∀ (s : State) (tag : Byte), s.proxy = .idle → s.reply = none →
    (∀ (d : Fin 12) (p : DutyProfile), p.InRange →
      exec (.putDuty (requestOf tag (dutyBody d p))) s = .next
        { s with
          duties := s.duties.set d { probe := (s.duties[d]).probe, duty := some { profile := p, run := p.newRun } }
          reply := some (okReply 0x07 tag []) }) ∧
    (∀ (d : Fin 12) (p : DutyProfile) (x y : Byte), p.Carried → (dutyBody d p).length ≤ 1600 →
      ∃ (reply reject : Option Pattern) (drawn : Nat) (clamped : Bool),
        PatternStored p.reply reply ∧ PatternStored p.reject reject ∧
        (clamped = true ↔ p.clampedWith reply reject ≠ p ∨ 7 < x.toNat ∨
          ((∃ lane weight, p.failure = .wake lane weight) ∧ 7 < y.toNat)) ∧
        let stored : DutyProfile :=
          { p.clampedWith reply reject with
            backoffMul := clampLane x
            failure := match p.failure with
              | .wake _ weight => .wake (clampLane y) weight
              | .suspend => .suspend
              | .continueRuns => .continueRuns }
        exec (.putDuty (requestOf tag (((dutyBody d p).set 21 x).set 24 y))) s = .next
          { s with
            duties := s.duties.set d
              { probe := (s.duties[d]).probe, duty := some { profile := stored, run := stored.newRun } }
            freeCount := drawn
            reply := some { okReply 0x07 tag [] with clamped := clamped } }) ∧
    (∀ (d : Fin 12) (rest : List Byte), rest.length ≤ 1598 →
      exec (.putDuty (requestOf tag (oneByte d.val :: 0 :: rest))) s = .next
        { s with
          duties := s.duties.set d { probe := (s.duties[d]).probe, duty := none }
          reply := some (okReply 0x07 tag []) }) ∧
    ∀ b : List Byte, b.length ≤ 1600 → ∀ st, FirstFault (dutyFaults b) st →
      exec (.putDuty (requestOf tag b)) s = .next { s with reply := some (refusal 0x07 tag st []) }

/-! ### The lifecycle -/

/-- Assume's profile check (R5, R6, R82): the request is performed when the nine checks hold, and is otherwise refused REFERENCE
with the table and the index of the first offence and nothing else changed. -/
def Obligations.Assume_runs_the_nine_checks : Prop :=
  ∀ (s : State) (tag : Byte), s.proxy = .idle → s.reply = none →
    (ProfileOk s → ∃ t r, exec (.assume (requestOf tag [])) s = .next t ∧ t.proxy = .proxy ∧ t.reply = some r ∧ r.status = .ok) ∧
    (∀ step i, FirstOffence s step i → exec (.assume (requestOf tag [])) s = .next
      { s with reply := some (refusal 0x0C tag .reference [offenceTable step, oneByte i]) }) ∧
    (¬ProfileOk s → ∃ step i, FirstOffence s step i)

/-- Assume with a passing profile (R7) starts every block. A first delay of 0 s expires at once (R107): in LINK_DOWN its duty is
DEFERRED; in ATTACHED it starts its first run, the first 8 such duties QUEUED and the others BLOCKED, and the oldest entry goes in
flight. That they take their places in ascending id is the model's reading (log 5, DEDUCED), and so is that an entry's last
claimant and, where no run starts, a duty's tries allowed are as they were (log 24, DEDUCED). -/
def Obligations.Assume_starts_every_block : Prop :=
  ∀ (s : State) (tag : Byte), s.proxy = .idle → s.reply = none → s.queue = [] → s.held = [] → ProfileOk s →
    let fresh (r : DutyRun) : DutyRun :=
      { r with
        state := .waiting, pending := none, void := false, firstRun := true, triesUsed := 0, failedRounds := 0,
        runsCompleted := 0, lastOutcome := .none, timer := none }
    let counted (u : Duty) : BitVec 32 := u.run.counter + u.profile.counterInc.setWidth 32
    let due : List (Fin 12 × Duty) := (List.finRange 12).filterMap fun d =>
      ((s.duties[d]).duty.filter fun u => u.profile.firstDelay = 0).map fun u => (d, u)
    let sent : List TxEntry := if s.linkState = .up then
      (due.take 8).map fun (d, u) =>
        { origin := .duty d, cls := .duty, frame := buildDuty s { u with run := { u.run with counter := counted u } },
          inFlight := false }
      else []
    exec (.assume (requestOf tag [])) s = .next
      { s with
        proxy := .proxy
        elapsed := 0
        hostInitiated := false
        owner := .part
        portOut := s.portOut ++ .owner .part :: (sent.take 1).map fun e => PortRecord.frameToSend e.frame
        wake := false
        stats := Stats.zero
        matchCounts := Vector.replicate 32 0
        entries := Vector.ofFn fun i : Fin 16 => (s.entries[i]).map fun e =>
          { e with
            state := match e.loaded with | .tentative => .tentative | .defended => .defended
            conflicts := 0
            tentativeTimer := match e.loaded with | .tentative => some (1000 * e.tentativeTime) | .defended => none
            contestTimer := none }
        duties := Vector.ofFn fun d : Fin 12 => { s.duties[d] with
          duty := (s.duties[d]).duty.map fun u => { u with
            run :=
              if u.profile.firstDelay ≠ 0 then { fresh u.run with timer := some (1000 * u.profile.firstDelay) }
              else if s.linkState ≠ .up then { fresh u.run with state := .deferred, pending := some .newRun }
              else { fresh u.run with
                state := if (due.countP fun x => decide (x.1 < d)) < 8 then .queued else .blocked
                counter := counted u
                triesAllowed := u.profile.startupTries
                firstRun := false } } }
        queue := (sent.take 1).map (fun e => { e with inFlight := true }) ++ sent.drop 1
        budget := s.curve.points[0]
        spent := 0
        windowCount := 0
        stormVote := 0
        windowTimer := some 100
        lanes := Vector.replicate 8 0
        reasons := 0
        firstReason := none
        resignals := 0
        decayTimer := some (1000 * s.station.decayPeriod)
        settleTimer := if s.station.settleHold = 0 then none else some s.station.settleHold
        patienceTimer := none
        gapTimer := none
        net := if s.linkState = .up then .attached else .linkDown
        reply := some (okReply 0x0C tag [if s.linkState = .up then 0 else 1]) }

/-- Reclaim while a frame is in flight (R10): HANDBACK, with that frame alone in the queue, the removed answers counted as link
drops, every timer stopped, BLOCKED, QUEUED and AWAITING duties ABANDONED, WAKE deasserted, all else as it was. -/
def Obligations.Reclaim_stops_the_blocks : Prop :=
  ∀ (s : State) (tag : Byte), s.active = true → s.reply = none → someInFlight s.queue = true →
    exec (.reclaim (requestOf tag [])) s = .next
      { s with
        proxy := .handback
        wake := false
        hostInitiated := decide (s.proxy = .proxy)
        reclaimState := s.proxy
        reclaimTime := s.elapsed
        queue := s.queue.filter fun e => e.inFlight
        stats := { s.stats with
          linkDrop := min (s.stats.linkDrop + s.queue.countP fun e => !e.inFlight && e.cls != .duty) 4294967295 }
        entries := Vector.ofFn fun i : Fin 16 =>
          (s.entries[i]).map fun e => { e with tentativeTimer := none, contestTimer := none }
        duties := Vector.ofFn fun d : Fin 12 => { s.duties[d] with
          duty := (s.duties[d]).duty.map fun u => { u with
            run := { u.run with
              lastOutcome :=
                if u.run.state = .blocked ∨ u.run.state = .queued ∨ u.run.state = .awaiting then .abandoned
                else u.run.lastOutcome
              timer := none } } }
        windowTimer := none
        decayTimer := none
        settleTimer := none
        patienceTimer := none
        gapTimer := none
        reply := some (okReply 0x0D tag []) }

/-- Handback completion (R13, R183): in HANDBACK with nothing in flight, by HANDBACK_COMPLETE; within a Reclaim that finds nothing in
flight, once the blocks are stopped (R10); within the transmit result of the frame in flight, an answer being counted first and a
duty keeping its state (R13, R134). The report is assembled from the state so left. -/
def Obligations.Handback_completes_with_nothing_in_flight : Prop :=
  let handedBack (s t : State) : Prop := ∃ report : WakeReport,
    t = { s with
      owner := .host
      portOut := s.portOut ++ [.owner .host]
      report := some report
      proxy := .report
      handbackDonePending := true } ∧
    report.proxyAtReclaim = s.reclaimState ∧ report.reclaimTime = s.reclaimTime ∧ report.completionTime = s.elapsed ∧
    report.hostInitiated = s.hostInitiated ∧ report.reasons = s.reasons ∧ report.firstReason = s.firstReason ∧
    report.resignals = s.resignals ∧ report.lanes = s.lanes ∧ report.net = s.net ∧
    report.matchCounts = s.matchCounts ∧ report.stats = s.stats ∧ report.heldRecords = s.held.length ∧
    report.heldBytes = (s.held.map fun h => h.frame.length).sum ∧
    (∀ i : Fin 16, report.entries[i] = (s.entries[i]).map fun e =>
      { kind := e.value.kind, state := e.state, conflicts := e.conflicts, claimant := e.lastClaimant }) ∧
    ∀ d : Fin 12, report.duties[d] = (s.duties[d]).duty.map fun u =>
      { state := u.run.state, outcome := u.run.lastOutcome, runsCompleted := u.run.runsCompleted,
        failedRounds := u.run.failedRounds, triesUsed := u.run.triesUsed, counter := u.run.counter,
        lastCapture := u.run.lastCapture, capturedInterval := u.run.capturedInterval }
  (∀ s : State, s.proxy = .handback → someInFlight s.queue = false →
    ∃ t, exec .handbackComplete s = .next t ∧ handedBack s t) ∧
  (∀ (s : State) (tag : Byte), s.active = true → s.reply = none → someInFlight s.queue = false →
    ∃ t, exec (.reclaim (requestOf tag [])) s = .next { t with reply := some (okReply 0x0D tag []) } ∧
      handedBack
        { s with
          proxy := .handback
          wake := false
          hostInitiated := decide (s.proxy = .proxy)
          reclaimState := s.proxy
          reclaimTime := s.elapsed
          queue := []
          stats := { s.stats with
            linkDrop := min (s.stats.linkDrop + s.queue.countP fun e => e.cls != .duty) 4294967295 }
          entries := Vector.ofFn fun i : Fin 16 =>
            (s.entries[i]).map fun e => { e with tentativeTimer := none, contestTimer := none }
          duties := Vector.ofFn fun d : Fin 12 => { s.duties[d] with
            duty := (s.duties[d]).duty.map fun u => { u with
              run := { u.run with
                lastOutcome :=
                  if u.run.state = .blocked ∨ u.run.state = .queued ∨ u.run.state = .awaiting then .abandoned
                  else u.run.lastOutcome
                timer := none } } }
          windowTimer := none
          decayTimer := none
          settleTimer := none
          patienceTimer := none
          gapTimer := none }
        t) ∧
  ∀ (s : State) (before rest : List TxEntry) (e : TxEntry), s.proxy = .handback → s.queue = before ++ e :: rest →
    e.inFlight = true → (∀ x ∈ before ++ rest, x.inFlight = false) →
      let left : State := { s with queue := before ++ rest }
      (∀ i : Fin 32, e.origin = .rule i →
        (∃ t, exec (.transmitResult .sent) s = .next t ∧ handedBack
          { left with stats := { s.stats with answersSent := min (s.stats.answersSent + 1) 4294967295 } } t) ∧
        ∃ t, exec (.transmitResult .refused) s = .next t ∧ handedBack
          { left with stats := { s.stats with answersRefused := min (s.stats.answersRefused + 1) 4294967295 } } t) ∧
      ∀ (d : Fin 12) (r : TxResult), e.origin = .duty d →
        ∃ t, exec (.transmitResult r) s = .next t ∧ handedBack left t

/-- Rearm (R15), Detach (R16) and Clear Profile (R17). That Detach and Clear Profile set LINK_DOWN as Rearm does is how R16 and R17
have it; R137 and R198 have it left as it stands, and following R16 and R17 is the model's reading (log 6, DEDUCED).
That tries allowed is kept is its reading too (log 24), the contents of places not in use its choice (log 9). -/
def Obligations.Rearm_keeps_and_Detach_clears_the_profile : Prop :=
  ∀ (s : State) (tag : Byte), s.reply = none →
    let idle : State :=
      { s with
        proxy := .idle, hostInitiated := false, stats := Stats.zero, matchCounts := Vector.replicate 32 0,
        windowCount := 0, spent := 0, stormVote := 0, windowTimer := none, lanes := Vector.replicate 8 0, reasons := 0,
        firstReason := none, resignals := 0, decayTimer := none, settleTimer := none, patienceTimer := none,
        gapTimer := none, wake := false, net := .linkDown, held := [], report := none }
    let cleared : State :=
      { idle with
        station := Station.default, entries := Vector.replicate 16 none, groups := Vector.replicate 8 GroupEntry.free,
        rules := Vector.replicate 32 Rule.free, pool := [], patchLists := Vector.replicate 32 none,
        duties := Vector.replicate 12 { probe := false, duty := none }, signature := none, curve := Curve.default,
        laneSettings := Vector.replicate 8 LaneSetting.default, budget := 32 }
    (s.proxy = .report →
      exec (.rearm (requestOf tag [])) s = .next
        { idle with
          budget := s.curve.points[0]
          entries := Vector.ofFn fun i : Fin 16 => (s.entries[i]).map fun e =>
            { e with
              state := match e.loaded with | .tentative => .tentative | .defended => .defended
              conflicts := 0, lastClaimant := none, tentativeTimer := none, contestTimer := none }
          duties := Vector.ofFn fun d : Fin 12 => { s.duties[d] with
            duty := (s.duties[d]).duty.map fun u => { u with
              run := { u.run with
                state := .waiting, pending := none, void := false, firstRun := true, triesUsed := 0, failedRounds := 0,
                runsCompleted := 0, lastCapture := none, lastOutcome := .none, timer := none } } }
          reply := some (okReply 0x10 tag []) }) ∧
    (s.proxy = .report →
      exec (.detach (requestOf tag [])) s = .next { cleared with reply := some (okReply 0x11 tag []) }) ∧
    (s.proxy = .idle →
      exec (.clearProfile (requestOf tag [])) s = .next { cleared with reply := some (okReply 0x0B tag []) })

/-! ### Received frames -/

/-- Frames that end before the destination stage (R22 to R25): discarded uncounted in IDLE and REPORT; malformed by their size, or by
a tag on fewer than 18 bytes; foreign by the station's VLAN filter. -/
def Obligations.Frames_end_at_intake_size_and_vlan : Prop :=
  ∀ (s : State) (f : Frame),
    (s.proxy = .idle ∨ s.proxy = .report → exec (.receivedFrame f) s = .next s) ∧
    (s.active = true ∨ s.proxy = .handback → Served s →
      (let tagged := (f.drop 12).take 2 = [0x81, 0x00]
       let inSize := 14 ≤ f.length ∧ f.length ≤ 1522
       let counted := { s.stats with received := min (s.stats.received + 1) 4294967295 }
       (¬inSize ∨ (tagged ∧ f.length < 18) →
         exec (.receivedFrame f) s = .next
           { s with stats := { counted with malformed := min (s.stats.malformed + 1) 4294967295 } }) ∧
       ((inSize ∧ tagged ∧ 18 ≤ f.length ∧ s.station.vlan ≠ some (BitVec.ofNat 12 (readNat f 14 2))) ∨
          (inSize ∧ ¬tagged ∧ s.station.vlan ≠ none) →
         exec (.receivedFrame f) s = .next
           { s with stats := { counted with foreignDest := min (s.stats.foreignDest + 1) 4294967295 } })))

/-- The destination stage (R24, R27): the normalised form of a frame, the class R27's table gives it, and the count of a frame with
none. -/
def Obligations.Destination_stage_follows_the_table : Prop :=
  (∀ f : Frame, 14 ≤ f.length → f.length ≤ 1522 → (f.drop 12).take 2 ≠ [0x81, 0x00] → normalise f = some (f, none)) ∧
  (∀ f : Frame, 18 ≤ f.length → f.length ≤ 1522 → (f.drop 12).take 2 = [0x81, 0x00] →
    normalise f = some (f.take 12 ++ f.drop 16, some (BitVec.ofNat 12 (readNat f 14 2)))) ∧
  (∀ (s : State) (f : Frame) (c : DestClass), 14 ≤ f.length → (∀ k : Fin 8, (s.groups[k]).matchLen ≤ 6) →
    (destClass s f = some c ↔ DestIs s f c)) ∧
  ∀ (s : State) (frame f : Frame), s.active = true ∨ s.proxy = .handback → Served s →
    normalise frame = some (f, s.station.vlan) → destClass s f = none →
      exec (.receivedFrame frame) s = .next
        { s with stats := { s.stats with
          received := min (s.stats.received + 1) 4294967295
          foreignDest := min (s.stats.foreignDest + 1) 4294967295 } }

/-- Who takes a frame: the AWAITING duty of lowest id that has leave to run and whose reply or reject pattern matches (R29, R113);
else the in-use rule of lowest index that passes, with its matched entry (R33 to R36). -/
def Obligations.Frames_go_to_the_first_that_matches : Prop :=
  (∀ (s : State) (f : Frame) (d : Fin 12),
    (∀ e : Fin 12, ∀ u ∈ (s.duties[e]).duty, ∀ q, u.profile.reply = some q ∨ u.profile.reject = some q →
      ∀ x ∈ q.echo, x.width ≤ 4) →
    (offeredDuty s f = some d ↔
      (let takes := fun e : Fin 12 => Leave s e ∧ ∃ u, (s.duties[e]).duty = some u ∧ u.run.state = .awaiting ∧
        ((∃ q, u.profile.reply = some q ∧ PatternMatches q u.run.counter f) ∨
          ∃ q, u.profile.reject = some q ∧ PatternMatches q u.run.counter f)
       takes d ∧ ∀ e : Fin 12, e < d → ¬takes e))) ∧
  ∀ (s : State) (f : Frame) (c : DestClass) (i : Fin 32) (m : Option (Fin 16)), EntryInv s → 14 ≤ f.length →
    (walkRules s c f = some (i, m) ↔
      RulePasses s s.rules[i] c f m ∧ ∀ k : Fin 32, k < i → ∀ n, ¬RulePasses s s.rules[k] c f n)

/-- Past the destination stage (R28, R31, R36, R42): outside ATTACHED a frame no duty takes is muted; one no rule matches is unmatched;
under a NOTE or DROP rule only the match count and the rule's weight act. Load counts in each case. In HANDBACK (R12, R22) a frame no
rule matches is unmatched, and a match of any action but HOLD raises its count and does nothing more. -/
def Obligations.Muted_unmatched_noted_and_dropped_frames : Prop :=
  (∀ (s : State) (frame f : Frame) (c : DestClass), Arrives s frame f c → Served s → offeredDuty s f = none →
    (s.net ≠ .attached → exec (.receivedFrame frame) s = .next
      { entered c s with stats := { (entered c s).stats with muted := min (s.stats.muted + 1) 4294967295 } }) ∧
    (s.net = .attached → walkRules s c f = none → exec (.receivedFrame frame) s = .next
      { entered c s with stats := { (entered c s).stats with unmatched := min (s.stats.unmatched + 1) 4294967295 } }) ∧
    ∀ i m, s.net = .attached → walkRules s c f = some (i, m) →
      (s.rules[i]).action = .note ∨ (s.rules[i]).action = .drop →
        exec (.receivedFrame frame) s = .next
          (addWeight (s.rules[i]).lane (s.rules[i]).weight
            { entered c s with matchCounts := s.matchCounts.set i (min (s.matchCounts[i] + 1) 4294967295) })) ∧
  ∀ (s : State) (frame f : Frame) (c : DestClass), s.proxy = .handback → Served s →
    normalise frame = some (f, s.station.vlan) → destClass s f = some c →
      let counted := { s.stats with received := min (s.stats.received + 1) 4294967295 }
      (walkRules s c f = none → exec (.receivedFrame frame) s = .next
        { s with stats := { counted with unmatched := min (s.stats.unmatched + 1) 4294967295 } }) ∧
      ∀ i m, walkRules s c f = some (i, m) → (s.rules[i]).action ≠ .hold → exec (.receivedFrame frame) s = .next
        { s with stats := counted, matchCounts := s.matchCounts.set i (min (s.matchCounts[i] + 1) 4294967295) }

/-- A HOLD rule (R41, R179): the normalised frame joins the tail with its rule and time when there is a free record and room, and is
counted hold refused otherwise; the weight follows. In HANDBACK (R12) the same without load or weight. -/
def Obligations.Hold_keeps_the_frame_or_counts_it : Prop :=
  ∀ (s : State) (frame f : Frame) (c : DestClass) (i : Fin 32) (m : Option (Fin 16)), Served s →
    normalise frame = some (f, s.station.vlan) → destClass s f = some c → walkRules s c f = some (i, m) →
    (s.rules[i]).action = .hold →
      let matched (x : State) : State :=
        { x with matchCounts := s.matchCounts.set i (min (s.matchCounts[i] + 1) 4294967295) }
      let kept (x : State) : State :=
        if s.held.length < 4 ∧ (s.held.map fun h => h.frame.length).sum + f.length ≤ 6144 then
          { x with held := s.held ++ [{ time := s.elapsed, rule := i, frame := f }] }
        else { x with stats := { x.stats with holdRefused := min (s.stats.holdRefused + 1) 4294967295 } }
      (s.active = true → s.net = .attached → offeredDuty s f = none →
        exec (.receivedFrame frame) s = .next
          (addWeight (s.rules[i]).lane (s.rules[i]).weight (kept (matched (entered c s))))) ∧
      (s.proxy = .handback →
        exec (.receivedFrame frame) s = .next
          (kept (matched { s with stats := { s.stats with received := min (s.stats.received + 1) 4294967295 } })))

/-- An ANSWER rule (R38 to R40, R87, R88): withheld, over budget, refused by the Transmit Queue, or built and admitted; then the rule's
weight, then the queue served. -/
def Obligations.Answers_are_withheld_refused_or_admitted : Prop :=
  ∀ (s : State) (frame f : Frame) (c : DestClass) (i : Fin 32) (m : Option (Fin 16)) (template : Fin 48), Arrives s frame f c →
    s.net = .attached → offeredDuty s f = none → walkRules s c f = some (i, m) → Served s →
    (s.rules[i]).action = .answer → (s.rules[i]).template = some template →
      let may := ∀ k ∈ m, ∃ e, s.entries[k] = some e ∧ (e.state = .defended ∨ e.state = .contested) ∧ e.mode = .answer
      let base : State :=
        { entered c s with matchCounts := s.matchCounts.set i (min (s.matchCounts[i] + 1) 4294967295) }
      let after (x : State) : Host.Outcome State Fault Refusal :=
        .next (startTransmit (addWeight (s.rules[i]).lane (s.rules[i]).weight x))
      let entry (cls : TxClass) : TxEntry :=
        { origin := .rule i
          cls := cls
          frame := buildAnswer s template (s.rules[i]).patchList f (m.bind fun k => (s.entries[k]).map AddrEntry.value)
          inFlight := false }
      (¬may → exec (.receivedFrame frame) s =
        after { base with stats := { base.stats with withheld := min (s.stats.withheld + 1) 4294967295 } }) ∧
      (may → (s.rules[i]).cls = .ordinary → s.budget ≤ s.spent → exec (.receivedFrame frame) s =
        after { base with stats := { base.stats with overBudget := min (s.stats.overBudget + 1) 4294967295 } }) ∧
      (may → (s.rules[i]).cls = .ordinary → s.spent < s.budget → s.queue.length < 8 → ordinaryCount s.queue < 6 →
        exec (.receivedFrame frame) s = after { base with queue := s.queue ++ [entry .ordinary], spent := s.spent + 1 }) ∧
      (may → (s.rules[i]).cls = .ordinary → s.spent < s.budget → 8 ≤ s.queue.length ∨ 6 ≤ ordinaryCount s.queue →
        exec (.receivedFrame frame) s =
          after { base with stats := { base.stats with queueFull := min (s.stats.queueFull + 1) 4294967295 } }) ∧
      (may → (s.rules[i]).cls = .essential → s.queue.length < 8 →
        exec (.receivedFrame frame) s = after { base with queue := s.queue ++ [entry .essential] }) ∧
      (may → (s.rules[i]).cls = .essential → 8 ≤ s.queue.length →
        exec (.receivedFrame frame) s =
          after { base with stats := { base.stats with essentialDrop := min (s.stats.essentialDrop + 1) 4294967295 } })

/-- A CLAIM rule (R43, R53 to R58): the part's own echo is ignored; a conflict is recorded and moves a DEFENDED entry to CONTESTED with a
defence answer, a CONTESTED or TENTATIVE one to LOST with the conflict weight, and leaves a LOST one LOST. -/
def Obligations.Claims_are_ruled_by_the_entry_state : Prop :=
  ∀ (s : State) (frame f : Frame) (c : DestClass) (i : Fin 32) (k : Fin 16) (e : AddrEntry), Arrives s frame f c →
    s.net = .attached → offeredDuty s f = none → walkRules s c f = some (i, some k) → Served s → s.entries[k] = some e →
    (s.rules[i]).action = .claim →
      let claimant := linkAddrAt f (s.rules[i]).claimantOffset
      let base : State :=
        { entered c s with matchCounts := s.matchCounts.set i (min (s.matchCounts[i] + 1) 4294967295) }
      let after (x : State) : Host.Outcome State Fault Refusal :=
        .next (startTransmit (addWeight (s.rules[i]).lane (s.rules[i]).weight x))
      let becomes (e' : AddrEntry) : State := { base with entries := s.entries.set k (some e') }
      let recorded : AddrEntry := { e with conflicts := min (e.conflicts + 1) 255, lastClaimant := some claimant }
      let contested : AddrEntry :=
        { recorded with state := .contested, contestTimer := some (s.station.contestWindow * 1000) }
      (claimant = s.station.ownAddr → exec (.receivedFrame frame) s = after base) ∧
      (claimant ≠ s.station.ownAddr → e.state = .defended →
        ((s.rules[i]).template = none → exec (.receivedFrame frame) s = after (becomes contested)) ∧
        (∀ template, (s.rules[i]).template = some template → s.queue.length < 8 →
          exec (.receivedFrame frame) s = after
            { becomes contested with
              queue := s.queue ++
                [{ origin := .rule i
                   cls := .essential
                   frame := buildAnswer s template (s.rules[i]).patchList f (some e.value)
                   inFlight := false }] }) ∧
        (∀ template, (s.rules[i]).template = some template → 8 ≤ s.queue.length →
          exec (.receivedFrame frame) s = after
            { becomes contested with
              stats := { base.stats with essentialDrop := min (s.stats.essentialDrop + 1) 4294967295 } })) ∧
      (claimant ≠ s.station.ownAddr → e.state = .contested ∨ e.state = .tentative →
        exec (.receivedFrame frame) s = after
          (addWeight s.station.conflictLane s.station.conflictWeight
            (becomes { recorded with state := .lost, tentativeTimer := none, contestTimer := none }))) ∧
      (claimant ≠ s.station.ownAddr → e.state = .lost → exec (.receivedFrame frame) s = after (becomes recorded))

/-! ### Duties -/

/-- A reply consumed in ATTACHED by a duty that is no signature's probe, or by the probe from the gateway (R114, R118 to R122, R144): the
run succeeds, its capture is applied, and the duty is WAITING for the interval so captured, or DONE. The frame counts as received
and as load, and goes no further. -/
def Obligations.Reply_ends_the_run_in_success : Prop :=
  ∀ (s : State) (frame f : Frame) (c : DestClass) (d : Fin 12) (u : Duty) (q : Pattern), Arrives s frame f c → Served s →
    s.net = .attached → offeredDuty s f = some d → (s.duties[d]).duty = some u → u.profile.reply = some q →
    q.passes u.run.counter f = true →
    ((s.duties[d]).probe = false ∨ ∀ g ∈ s.signature, (f.drop 6).take 6 = bytesOfBits 6 g.gateway) →
      let won (r : DutyRun) : Host.Outcome State Fault Refusal := .next (withRun d (rescheduled u.profile r) (entered c s))
      (u.profile.capture = none → exec (.receivedFrame frame) s = won (succeeded u.run)) ∧
      ∀ cap, u.profile.capture = some cap →
        (f.length < cap.offset + cap.width → exec (.receivedFrame frame) s = won (succeeded u.run)) ∧
        (cap.offset + cap.width ≤ f.length →
          let v := natOfBytes ((f.drop cap.offset).take cap.width)
          (cap.target = .counter → exec (.receivedFrame frame) s =
            won { succeeded u.run with lastCapture := some v, counter := BitVec.ofNat 32 v }) ∧
          ∀ n lo hi, cap.target = .interval n lo hi → lo ≤ hi → exec (.receivedFrame frame) s =
            won { succeeded u.run with lastCapture := some v, capturedInterval := some (max lo (min hi (v * n / 256))) })

/-- A reject consumed outside CHECKING (R123 to R126): last outcome REJECTED, tries and rounds unchanged, then the failure action. -/
def Obligations.Reject_ends_the_run_in_the_failure_action : Prop :=
  ∀ (s : State) (frame f : Frame) (c : DestClass) (d : Fin 12) (u : Duty) (q : Pattern), Arrives s frame f c → Served s →
    s.net = .attached → offeredDuty s f = some d → (s.duties[d]).duty = some u → u.profile.reject = some q →
    q.passes u.run.counter f = true → (∀ p ∈ u.profile.reply, p.passes u.run.counter f = false) →
      exec (.receivedFrame frame) s = .next
        (withRun d (failedRun u.profile { u.run with lastOutcome := .rejected }) (failureWeight u.profile (entered c s)))

/-- The probe's result (R141 to R145, R130). In CHECKING a reply from the gateway makes the network ATTACHED and the run a success,
with the DEFERRED duties resumed; a reply from another source, or a reject, makes it FOREIGN with the probe DEFERRED for a new run
and the signature's weight added. In ATTACHED a reply from another source is a success too, and the network becomes FOREIGN with the
weight added, every QUEUED duty voided and every AWAITING one deferred. -/
def Obligations.Probe_result_decides_the_network : Prop :=
  ∀ (s : State) (frame f : Frame) (c : DestClass) (d : Fin 12) (u : Duty) (g : Signature), Arrives s frame f c → Served s →
    s.signature = some g → (s.duties[d]).probe = true → (s.duties[d]).duty = some u → u.run.state = .awaiting →
      let foreign (r : DutyRun) : Host.Outcome State Fault Refusal :=
        .next (addWeight g.lane g.weight (withRun d
          { r with state := .deferred, pending := some .newRun, void := false, timer := none }
          { entered c s with net := .foreign }))
      let won : DutyRun := rescheduled u.profile (captured u.profile f (succeeded u.run))
      let replies := ∃ q, u.profile.reply = some q ∧ q.passes u.run.counter f = true
      let rejects := ∃ q, u.profile.reject = some q ∧ q.passes u.run.counter f = true
      (NetInv s → s.net = .checking →
        (replies → (f.drop 6).take 6 = bytesOfBits 6 g.gateway →
          exec (.receivedFrame frame) s = .next (startTransmit (resumeDeferred
            (withRun d won { entered c s with net := .attached })))) ∧
        (replies → (f.drop 6).take 6 ≠ bytesOfBits 6 g.gateway → exec (.receivedFrame frame) s = foreign u.run) ∧
        (¬replies → rejects → exec (.receivedFrame frame) s = foreign { u.run with lastOutcome := .rejected })) ∧
      (s.net = .attached → offeredDuty s f = some d → replies → (f.drop 6).take 6 ≠ bytesOfBits 6 g.gateway →
        exec (.receivedFrame frame) s = .next (addWeight g.lane g.weight
          { entered c s with
            net := .foreign
            duties := Vector.ofFn fun e : Fin 12 => { s.duties[e] with
              duty := (s.duties[e]).duty.map fun x => { x with
                run := if e = d then won else withoutLeave x.run } } }))

/-- A try (R109, R89): without leave DEFERRED, with a LOST entry named SUSPENDED, else built and admitted as QUEUED, or BLOCKED behind a
full queue. -/
def Obligations.Try_defers_suspends_queues_or_blocks : Prop :=
  ∀ (s : State) (d : Fin 12) (u : Duty), (s.duties[d]).duty = some u →
    (¬Leave s d → makeTry d s =
      withRun d { u.run with state := .deferred, pending := some .try_, void := false, timer := none } s) ∧
    (Leave s d → NamesLost s u.profile.patchList → makeTry d s =
      withRun d { u.run with
        state := .suspended, pending := none, void := false, timer := none, lastOutcome := .addressLost } s) ∧
    (Leave s d → ¬NamesLost s u.profile.patchList → s.queue.length < 8 → makeTry d s =
      withRun d { u.run with state := .queued, pending := none, void := false, timer := none }
        { s with queue := s.queue ++ [{ origin := .duty d, cls := .duty, frame := buildDuty s u, inFlight := false }] }) ∧
    (Leave s d → ¬NamesLost s u.profile.patchList → 8 ≤ s.queue.length → makeTry d s =
      withRun d { u.run with state := .blocked, pending := none, void := false, timer := none } s)

/-- A first-delay or interval expiry (R107, R108): DEFERRED, SUSPENDED, or a new run with the counter moved, the tries set and the
first-run mark cleared, and its first try. A backoff expiry (R117): a new round's try of the same run, which without leave is DEFERRED
with pending step TRY; in FOREIGN R146 says NEW_RUN, and following R117 and R128 there is the model's reading (log 25, DEDUCED). -/
def Obligations.Duty_timers_start_runs_and_rounds : Prop :=
  ∀ (s : State) (d : Fin 12) (u : Duty), s.active = true → Served s → (s.duties[d]).duty = some u →
    u.run.timer.isSome = true →
    (u.run.state = .waiting →
      (¬Leave s d → exec (.dutyTimerExpiry d) s = .next
        (withRun d { u.run with state := .deferred, pending := some .newRun, void := false, timer := none } s)) ∧
      (Leave s d → NamesLost s u.profile.patchList → exec (.dutyTimerExpiry d) s = .next
        (withRun d { u.run with
          state := .suspended, pending := none, void := false, timer := none, lastOutcome := .addressLost } s)) ∧
      (Leave s d → ¬NamesLost s u.profile.patchList → exec (.dutyTimerExpiry d) s = .next
        (startTransmit (makeTry d (withRun d { u.run with
          counter := u.run.counter + u.profile.counterInc.setWidth 32
          triesUsed := 0
          triesAllowed := if u.run.firstRun = true then u.profile.startupTries else u.profile.runTries
          firstRun := false
          timer := none } s))))) ∧
    (u.run.state = .backoff →
      (Leave s d → exec (.backoffExpiry d) s = .next
        (startTransmit (makeTry d (withRun d { u.run with triesUsed := 0, timer := none } s)))) ∧
      (¬Leave s d → exec (.backoffExpiry d) s = .next
        (withRun d { u.run with
          triesUsed := 0, state := .deferred, pending := some .try_, void := false, timer := none } s)))

/-- A reply-window expiry (R114 to R116): another try while tries are left; then BACKOFF, or EXHAUSTED with the failure action when the
rounds limit is reached; for the probe in CHECKING, FOREIGN (R143). -/
def Obligations.Window_expiry_counts_tries_and_rounds : Prop :=
  ∀ (s : State) (d : Fin 12) (u : Duty), s.active = true → Served s → NetInv s → (s.duties[d]).duty = some u →
    u.run.state = .awaiting → u.run.timer.isSome = true →
      let used := u.run.triesUsed + 1
      let rounds := min (u.run.failedRounds + 1) 255
      let probing := s.net = .checking ∧ (s.duties[d]).probe = true
      let factor := [1, 2, 3, 4, 6, 8, 12, 16].getD u.profile.backoffMul.val 16
      let limited := u.profile.roundsLimit ≠ 0 ∧ u.profile.roundsLimit ≤ rounds
      (used < u.run.triesAllowed → exec (.replyWindowExpiry d) s = .next
        (startTransmit (makeTry d (withRun d { u.run with triesUsed := used, timer := none } s)))) ∧
      (u.run.triesAllowed ≤ used → ¬probing → ¬limited → exec (.replyWindowExpiry d) s = .next
        (withRun d { u.run with
          state := .backoff, pending := none, void := false, triesUsed := used, failedRounds := rounds,
          timer := some (u.profile.backoffBase * factor * 1000) } s)) ∧
      (u.run.triesAllowed ≤ used → ¬probing → limited → exec (.replyWindowExpiry d) s = .next
        (withRun d
          (failedRun u.profile { u.run with
            triesUsed := used, failedRounds := rounds, lastOutcome := .exhausted, timer := none })
          (failureWeight u.profile s))) ∧
      ∀ g, u.run.triesAllowed ≤ used → probing → s.signature = some g → exec (.replyWindowExpiry d) s = .next
        (addWeight g.lane g.weight (withRun d
          { u.run with
            state := .deferred, pending := some .newRun, void := false, triesUsed := used, failedRounds := 1,
            lastOutcome := .exhausted, timer := none }
          { s with net := .foreign }))

/-! ### The Answer Builder -/

/-- What a patch within its bounds writes (R71 to R76): the frame keeps its length, bytes outside the patch stay, and the bytes the
kind gives stand at the destination. -/
def Obligations.Patches_write_their_bytes : Prop :=
  ∀ (s : State) (ops : BuildOperands) (buf : List Byte) (dest : Nat),
    (∀ p : Patch, (applyPatch s ops buf p).length = buf.length) ∧
    (∀ source count : Nat, dest + count ≤ buf.length →
      let out := applyPatch s ops buf (.copy source dest count)
      (∀ k, k < count → out.getD (dest + k) 0 = ops.request.getD (source + k) 0) ∧
        ∀ k, k < dest ∨ dest + count ≤ k → out.getD k 0 = buf.getD k 0) ∧
    (dest + 6 ≤ buf.length →
      applyPatch s ops buf (.ownLink dest) =
        buf.take dest ++ bytesOfBits 6 s.station.ownAddr ++ buf.drop (dest + 6)) ∧
    (∀ (i : Fin 16) (e : AddrEntry), s.entries[i] = some e → dest + e.value.kind.size ≤ buf.length →
      applyPatch s ops buf (.fillEntry dest (.index i)) =
        buf.take dest ++ e.value.bytes ++ buf.drop (dest + e.value.kind.size)) ∧
    (∀ v : NetAddr, ops.matched = some v → dest + v.kind.size ≤ buf.length →
      applyPatch s ops buf (.fillEntry dest .matched) = buf.take dest ++ v.bytes ++ buf.drop (dest + v.kind.size)) ∧
    (∀ data mask : Byte, dest < buf.length →
      ∃ b : Byte, applyPatch s ops buf (.setMasked dest data mask) = buf.take dest ++ b :: buf.drop (dest + 1) ∧
        ∀ k, k < 8 → b.getLsbD k = if mask.getLsbD k then data.getLsbD k else (buf.getD dest 0).getLsbD k) ∧
    (∀ width : Nat, width ≤ 4 → dest + width ≤ buf.length →
      applyPatch s ops buf (.counter dest width) =
        buf.take dest ++ (bytesOfBits 4 ops.counter).drop (4 - width) ++ buf.drop (dest + width)) ∧
    ∀ base : Nat, dest + 2 ≤ buf.length →
      applyPatch s ops buf (.length dest base) =
        buf.take dest ++ bytesOfNat 2 (if base ≤ buf.length then buf.length - base else 0) ++ buf.drop (dest + 2)

/-- A SUM16 patch (R77 to R79). The sum takes 16-bit words, an odd last byte as a high byte, and the pseudo-header's words. Wherever
its store field lies in the frame, the frame keeps every other byte, and the two bytes there become the complement of the folded
sum, a computed zero stored as 0xFFFF under the flag. With the store field word-aligned in the range and outside the address fields
read, the range with the pseudo-header then sums to all ones. A finished frame (R80, R81): the patched template, zero bytes up to
60, and the station's tag at offset 12. An answer is built from its rule's template and patch list with the request and the matched
value, a duty's frame from its own with its run counter (R70). -/
def Obligations.Checksums_verify_and_frames_are_finished : Prop :=
  (∀ bytes : List Byte, wordSum bytes =
    ((List.range ((bytes.length + 1) / 2)).map fun k =>
      256 * (bytes.getD (2 * k) 0).toNat + (bytes.getD (2 * k + 1) 0).toNat).sum) ∧
  (∀ (buf : List Byte) (range addrA addrB : Nat) (protocol : Byte), range ≤ 1514 →
    pseudoSum buf range .none addrA addrB protocol = 0 ∧
    (addrA + 4 ≤ buf.length → addrB + 4 ≤ buf.length →
      pseudoSum buf range .short addrA addrB protocol =
        wordSum (slice buf addrA 4 ++ slice buf addrB 4 ++ [0, protocol] ++ bytesOfNat 2 range)) ∧
    (addrA + 16 ≤ buf.length → addrB + 16 ≤ buf.length →
      pseudoSum buf range .long addrA addrB protocol =
        wordSum (slice buf addrA 16 ++ slice buf addrB 16 ++ bytesOfNat 4 range ++ [0, protocol]))) ∧
  (∀ (s : State) (ops : BuildOperands) (buf : List Byte) (start stop store addrA addrB : Nat) (pseudo : PseudoKind)
    (protocol : Byte) (zeroAsOnes : Bool), store + 2 ≤ buf.length → stop - start ≤ 1514 →
      let out := applyPatch s ops buf (.sum16 start stop store pseudo addrA addrB protocol zeroAsOnes)
      let zeroed := buf.take store ++ [0, 0] ++ buf.drop (store + 2)
      let total := wordSum (slice zeroed start (stop - start))
        + pseudoSum zeroed (stop - start) pseudo addrA addrB protocol
      let size := match pseudo with | .none => 0 | .short => 4 | .long => 16
      out = buf.take store ++
        bytesOfNat 2
          (if total = 0 then 65535
           else if total % 65535 = 0 then (if zeroAsOnes then 65535 else 0)
           else 65535 - total % 65535) ++
        buf.drop (store + 2) ∧
      (start ≤ store → (store - start) % 2 = 0 → store + 2 ≤ stop → stop ≤ buf.length →
        (pseudo = .none ∨ addrA + size ≤ store ∨ store + 2 ≤ addrA) →
        (pseudo = .none ∨ addrB + size ≤ store ∨ store + 2 ≤ addrB) →
          fold16 32 (wordSum (slice out start (stop - start)) + pseudoSum out (stop - start) pseudo addrA addrB protocol)
            = 65535)) ∧
  (∀ (s : State) (template : List Byte) (patches : List Patch) (ops : BuildOperands),
    14 ≤ template.length → template.length ≤ 1514 →
      let body := patches.foldl (applyPatch s ops) template ++ List.replicate (60 - template.length) 0
      body.length = max 60 template.length ∧
        (s.station.vlan = none → buildFrame s template patches ops = body) ∧
        ∀ v, s.station.vlan = some v →
          buildFrame s template patches ops =
            body.take 12 ++ [0x81, 0x00, v.extractLsb' 8 4 |>.setWidth 8, v.setWidth 8] ++ body.drop 12) ∧
  ∀ (s : State) (id : Fin 48) (template : List Byte), PoolInv s → (id, template) ∈ s.pool →
    (∀ (list : Option (Fin 32)) (request : Frame) (matched : Option NetAddr),
      buildAnswer s id list request matched =
        buildFrame s template (listOf s list) { request := request, matched := matched, counter := 0 }) ∧
    ∀ u : Duty, u.profile.template = id →
      buildDuty s u = buildFrame s template (listOf s u.profile.patchList)
        { request := [], matched := none, counter := u.run.counter }

/-! ### Transmission -/

/-- A transmit result with nothing in flight is ignored, and so it is in IDLE and REPORT (R92). An answer's result is counted and its
entry removed; the freed place is then offered to the BLOCKED duties and the oldest entry goes in flight (R86, R90, R91, R95). -/
def Obligations.Transmit_result_completes_an_answer : Prop :=
  (∀ (s : State) (r : TxResult), s.proxy = .idle ∨ s.proxy = .report ∨ someInFlight s.queue = false →
    (s.proxy = .handback → someInFlight s.queue = true) → exec (.transmitResult r) s = .next s) ∧
  ∀ (s : State) (before rest : List TxEntry) (e : TxEntry) (i : Fin 32), s.active = true → s.queue = before ++ e :: rest →
    (∀ x ∈ before, x.inFlight = false) → e.inFlight = true → e.origin = .rule i →
      exec (.transmitResult .sent) s = .next (startTransmit (arbiter
        { s with
          queue := before ++ rest
          stats := { s.stats with answersSent := min (s.stats.answersSent + 1) 4294967295 } })) ∧
      exec (.transmitResult .refused) s = .next (startTransmit (arbiter
        { s with
          queue := before ++ rest
          stats := { s.stats with answersRefused := min (s.stats.answersRefused + 1) 4294967295 } }))

/-- A transmit result of a QUEUED duty's entry (R111, R112, R115, R116, R143): SENT starts the reply window, or ends a run without reply
pattern in success; REFUSED fails the try, and with the tries used up the round: BACKOFF, or EXHAUSTED with the failure action, or
FOREIGN for the probe in CHECKING; with the void mark either makes the try again uncounted. The freed place is then offered to the
BLOCKED duties and the queue served: that the duty's own next try, made before that, may take the place is the model's reading of
R91 with R90 (log 4, DEDUCED). -/
def Obligations.Transmit_result_moves_a_duty : Prop :=
  ∀ (s : State) (before rest : List TxEntry) (e : TxEntry) (d : Fin 12) (u : Duty) (r : TxResult), s.active = true →
    s.queue = before ++ e :: rest → (∀ x ∈ before, x.inFlight = false) → e.inFlight = true → e.origin = .duty d →
    (s.duties[d]).duty = some u → u.run.state = .queued →
      let left : State := { s with queue := before ++ rest }
      let after (x : State) : Host.Outcome State Fault Refusal := .next (startTransmit (arbiter x))
      let used : DutyRun := { u.run with triesUsed := u.run.triesUsed + 1 }
      let limited := u.profile.roundsLimit ≠ 0 ∧ u.profile.roundsLimit ≤ min (u.run.failedRounds + 1) 255
      let probing := s.net = .checking ∧ (s.duties[d]).probe = true
      (u.run.void = true →
        exec (.transmitResult r) s = after (makeTry d (withRun d { u.run with void := false } left))) ∧
      (u.run.void = false →
        (u.profile.reply.isSome = true → exec (.transmitResult .sent) s =
          after (withRun d { u.run with state := .awaiting, pending := none, timer := some u.profile.replyWindow } left)) ∧
        (u.profile.reply = none → exec (.transmitResult .sent) s =
          after (withRun d (rescheduled u.profile (succeeded u.run)) left)) ∧
        (used.triesUsed < u.run.triesAllowed → exec (.transmitResult .refused) s =
          after (makeTry d (withRun d used left))) ∧
        (u.run.triesAllowed ≤ used.triesUsed →
          (¬probing → ¬limited → exec (.transmitResult .refused) s = after (withRun d (failedRound u.profile used) left)) ∧
          (¬probing → limited → exec (.transmitResult .refused) s =
            after (withRun d (failedRun u.profile (failedRound u.profile used)) (failureWeight u.profile left))) ∧
          ∀ g, NetInv s → probing → s.signature = some g → exec (.transmitResult .refused) s =
            after (addWeight g.lane g.weight (withRun d
              { used with
                state := .deferred, pending := some .newRun, failedRounds := 1, lastOutcome := .exhausted, timer := none }
              { left with net := .foreign }))))

/-- FRAME_TO_SEND (R86, R98): with nothing in flight the oldest entry goes in flight and its frame is sent; else nothing. BLOCKED_DUTY_ADMIT
(R90, R110): a free place goes to the BLOCKED duty of lowest id that has leave and names no LOST entry, its frame built then; one that
declines is DEFERRED or SUSPENDED by its try, and the place goes on to the next. The arbiter after a transmit result or a link down
does so with every free place. -/
def Obligations.Queue_hands_over_frames_and_places : Prop :=
  (∀ (s : State) (e : TxEntry) (rest : List TxEntry), s.active = true → s.queue = e :: rest → someInFlight s.queue = false →
    exec .frameToSend s = .next
      { s with queue := { e with inFlight := true } :: rest, portOut := s.portOut ++ [.frameToSend e.frame] }) ∧
  (∀ s : State, exec .frameToSend s = .next (startTransmit s) ∧
    (s.queue = [] ∨ someInFlight s.queue = true → startTransmit s = s)) ∧
  (∀ s : State, s.active = true →
    8 ≤ s.queue.length ∨ (∀ k : Fin 12, ∀ x ∈ (s.duties[k]).duty, x.run.state ≠ .blocked) →
      arbiter s = s ∧ exec .blockedDutyAdmit s = .next (startTransmit s)) ∧
  ∀ (s : State) (d : Fin 12) (u : Duty), s.active = true → s.queue.length < 8 →
    (s.duties[d]).duty = some u → u.run.state = .blocked →
    (∀ k : Fin 12, k < d → ∀ x ∈ (s.duties[k]).duty, x.run.state ≠ .blocked) →
      arbiter s = arbiter (makeTry d s) ∧
      (Leave s d → ¬NamesLost s u.profile.patchList → exec .blockedDutyAdmit s = .next (startTransmit
        (withRun d { u.run with state := .queued, pending := none, void := false, timer := none }
          { s with queue := s.queue ++
              [{ origin := .duty d, cls := .duty, frame := buildDuty s u, inFlight := false }] }))) ∧
      (¬Leave s d → exec .blockedDutyAdmit s = exec .blockedDutyAdmit
        (withRun d { u.run with state := .deferred, pending := some .try_, void := false, timer := none } s)) ∧
      (Leave s d → NamesLost s u.profile.patchList → exec .blockedDutyAdmit s = exec .blockedDutyAdmit
        (withRun d { u.run with
          state := .suspended, pending := none, void := false, timer := none, lastOutcome := .addressLost } s))

/-! ### Link changes -/

/-- A link-state record (R96, R100): outside PROXY and WAKING it sets the link state alone; a repeat sets nothing. A change to DOWN (R93,
R129, R138): LINK_DOWN, the QUEUED entries removed and the answers among them counted, each duty by its state, the BLOCKED ones
declining a freed place (R110); with the network already LINK_DOWN it sets the link state alone (R138). -/
def Obligations.Link_down_removes_and_defers : Prop :=
  (∀ (s : State) (l : LinkRecord), s.active = false → s.linkState ≠ (match l with | .up => LinkState.up | .down => .down) →
    exec (.linkState l) s = .next { s with linkState := match l with | .up => .up | .down => .down }) ∧
  (∀ s : State, (s.linkState = .up → exec (.linkState .up) s = .next s) ∧
    (s.linkState = .down → exec (.linkState .down) s = .next s)) ∧
  (∀ s : State, s.active = true → s.linkState ≠ .down → s.net = .linkDown → Served s →
    exec (.linkState .down) s = .next { s with linkState := .down }) ∧
  ∀ s : State, s.active = true → s.linkState ≠ .down → s.net ≠ .linkDown →
    (∀ d : Fin 12, ∀ u ∈ (s.duties[d]).duty, u.run.state ≠ .blocked) ∨ (s.queue.countP fun e => e.inFlight) < 8 →
      exec (.linkState .down) s = .next
        { s with
          linkState := .down
          net := .linkDown
          queue := s.queue.filter fun e => e.inFlight
          stats := { s.stats with
            linkDrop := min (s.stats.linkDrop + s.queue.countP fun e => !e.inFlight && e.cls != .duty) 4294967295 }
          duties := Vector.ofFn fun d : Fin 12 => { s.duties[d] with
            duty := (s.duties[d]).duty.map fun u => { u with
              run :=
                if u.run.state = .queued ∧ (∃ e ∈ s.queue, e.inFlight = true ∧ e.origin = .duty d) then
                  { u.run with void := true }
                else if u.run.state = .queued ∨ u.run.state = .awaiting ∨ u.run.state = .blocked then
                  { u.run with state := .deferred, pending := some .try_, void := false, timer := none }
                else u.run } } }

/-- A change to UP from LINK_DOWN (R128, R133, R139): without a signature ATTACHED, the DEFERRED duties resumed in ascending id, each
carrying out its pending step; with one CHECKING, and the probe restarted with a new run and its startup tries. DEFERRED_RESUME is
that resumption by itself: what it does is what the lowest of them does and then what the rest do. -/
def Obligations.Link_up_resumes_or_probes : Prop :=
  (∀ s : State, s.active = true → s.linkState ≠ .up → s.net = .linkDown → s.signature = none →
    exec (.linkState .up) s = exec .deferredResume { s with linkState := .up, net := .attached }) ∧
  (∀ s : State, s.active = true → (∀ k : Fin 12, ∀ x ∈ (s.duties[k]).duty, x.run.state = .deferred → ¬Leave s k) →
    exec .deferredResume s = .next (startTransmit s)) ∧
  (∀ (s : State) (d : Fin 12) (u : Duty), s.active = true → (s.duties[d]).duty = some u → u.run.state = .deferred → Leave s d →
    (∀ k : Fin 12, k < d → ∀ x ∈ (s.duties[k]).duty, x.run.state = .deferred → ¬Leave s k) →
      (u.run.pending = some .try_ → exec .deferredResume s = exec .deferredResume (makeTry d s)) ∧
      (u.run.pending = some .newRun → NamesLost s u.profile.patchList → exec .deferredResume s = exec .deferredResume
        (withRun d { u.run with
          state := .suspended, pending := none, void := false, timer := none, lastOutcome := .addressLost } s)) ∧
      (u.run.pending = some .newRun → ¬NamesLost s u.profile.patchList → exec .deferredResume s = exec .deferredResume
        (makeTry d (withRun d { u.run with
          counter := u.run.counter + u.profile.counterInc.setWidth 32
          triesUsed := 0
          triesAllowed := if u.run.firstRun = true then u.profile.startupTries else u.profile.runTries
          firstRun := false } s)))) ∧
  ∀ (s : State) (g : Signature) (u : Duty), s.active = true → s.linkState ≠ .up → s.net = .linkDown → NetInv s →
    s.signature = some g → (s.duties[g.probeDuty]).duty = some u →
      let run : DutyRun := { u.run with
        counter := u.run.counter + u.profile.counterInc.setWidth 32
        triesUsed := 0
        triesAllowed := u.profile.startupTries
        firstRun := false
        failedRounds := 0
        pending := none
        timer := none }
      let up : State := { s with linkState := .up, net := .checking }
      ((u.run.state = .queued ∧ ∃ e ∈ s.queue, e.inFlight = true ∧ e.origin = .duty g.probeDuty) →
        exec (.linkState .up) s = .next (startTransmit (withRun g.probeDuty { run with void := true } up))) ∧
      (¬(u.run.state = .queued ∧ ∃ e ∈ s.queue, e.inFlight = true ∧ e.origin = .duty g.probeDuty) →
        exec (.linkState .up) s = .next (startTransmit (makeTry g.probeDuty (withRun g.probeDuty run up))))

/-! ### The Wake Unit, the Load Governor and the timers -/

/-- An addition (R164, R165, R170, R171): discarded with weight 0 or outside PROXY and WAKING; applied alone while the settle hold
runs; else lane and total join the reason set at their thresholds, the first to join an empty set is the first reason, and in PROXY
the part wakes. -/
def Obligations.Additions_raise_lanes_and_may_wake : Prop :=
  ∀ (s : State) (j : Fin 8) (w : Nat),
    (w = 0 ∨ s.active = false → addWeight j w s = s) ∧
    (w ≠ 0 → s.active = true →
      let lanes := s.lanes.set j (min (s.lanes[j] + w) 65535)
      let laneJoins := (s.laneSettings[j]).threshold ≠ 0 ∧ (s.laneSettings[j]).threshold ≤ lanes[j]
      let totalJoins := s.station.totalThreshold ≠ 0 ∧ s.station.totalThreshold ≤ lanes.toList.sum
      (s.settleTimer.isSome = true → addWeight j w s = { s with lanes := lanes }) ∧
      (s.settleTimer = none → ∃ t : State,
        addWeight j w s =
          { s with
            lanes := lanes, reasons := t.reasons, firstReason := t.firstReason, proxy := t.proxy, wake := t.wake,
            patienceTimer := t.patienceTimer } ∧
        (∀ k : Fin 9, t.reasons.getLsbD k.val = true ↔
          s.reasons.getLsbD k.val = true ∨ (k.val = j.val ∧ laneJoins) ∨ (k.val = 8 ∧ totalJoins)) ∧
        t.firstReason =
          (if s.reasons ≠ 0 then s.firstReason
           else if laneJoins then some { reason := ⟨j.val, by omega⟩, time := s.elapsed }
           else if totalJoins then some { reason := 8, time := s.elapsed }
           else s.firstReason) ∧
        (t.proxy, t.wake, t.patienceTimer) =
          if s.proxy = .proxy ∧ s.reasons = 0 ∧ (laneJoins ∨ totalJoins) then
            (.waking, true, some (1000 * s.station.wakePatience))
          else (s.proxy, s.wake, s.patienceTimer)))

/-- Decay and the settle hold's end (R166, R168, R170): every lane decays by its own setting with no evaluation, and the next period
starts; at the hold's end every lane and the total are tested in order, and in PROXY a set no longer empty wakes the part. -/
def Obligations.Lanes_decay_and_the_settle_hold_evaluates : Prop :=
  (∀ s : State, s.active = true → s.decayTimer.isSome = true →
    exec .decayPeriodExpiry s = .next
      { s with
        lanes := Vector.ofFn fun j : Fin 8 =>
          match (s.laneSettings[j]).mode with
          | .shift => s.lanes[j] / 2 ^ (s.laneSettings[j]).shift
          | .step => s.lanes[j] - (s.laneSettings[j]).step
        decayTimer := some (1000 * s.station.decayPeriod) }) ∧
  ∀ s : State, s.active = true → s.settleTimer.isSome = true → s.reasons = 0 →
    let joins : Fin 9 → Prop := fun k =>
      if h : k.val < 8 then
        (s.laneSettings[k.val]).threshold ≠ 0 ∧ (s.laneSettings[k.val]).threshold ≤ s.lanes[k.val]
      else s.station.totalThreshold ≠ 0 ∧ s.station.totalThreshold ≤ s.lanes.toList.sum
    ∃ t : State,
      exec .settleHoldExpiry s = .next
        { s with
          settleTimer := none, reasons := t.reasons, firstReason := t.firstReason, proxy := t.proxy, wake := t.wake,
          patienceTimer := t.patienceTimer } ∧
      (∀ k : Fin 9, t.reasons.getLsbD k.val = true ↔ joins k) ∧
      (∀ k : Fin 9, joins k → (∀ i : Fin 9, i < k → ¬joins i) → t.firstReason = some { reason := k, time := s.elapsed }) ∧
      ((∀ k : Fin 9, ¬joins k) → t.firstReason = s.firstReason) ∧
      ((s.proxy = .proxy ∧ ∃ k, joins k) →
        t.proxy = .waking ∧ t.wake = true ∧ t.patienceTimer = some (1000 * s.station.wakePatience)) ∧
      (¬(s.proxy = .proxy ∧ ∃ k, joins k) →
        t.proxy = s.proxy ∧ t.wake = s.wake ∧ t.patienceTimer = s.patienceTimer)

/-- The end of a load window (R151, R153, R154, R156): the target from the window count, the budget down at once or up by the ramp
step, the storm vote with its statistic and its weight at the third storm window in a row, then a fresh window. -/
def Obligations.Load_window_moves_the_budget_and_votes : Prop :=
  ∀ (s : State) (target : Nat), s.active = true → s.windowTimer.isSome = true →
    (256 ≤ s.windowCount → target = s.curve.points[8]) →
    (∀ k : Fin 8, s.windowCount / 32 = k.val →
      (target : Int) = s.curve.points[k.val]
        + ((s.curve.points[k.val + 1] : Int) - s.curve.points[k.val]) * ((s.windowCount % 32 : Nat) : Int) / 32) →
      let ended : State :=
        { s with
          budget := if target ≤ s.budget then target else min (s.budget + s.curve.ramp) target
          spent := 0, windowCount := 0, windowTimer := some 100 }
      let stormy : State :=
        { ended with stats := { s.stats with stormWindows := min (s.stats.stormWindows + 1) 4294967295 } }
      (∀ k : Fin 8, s.windowCount / 32 = k.val →
        min s.curve.points[k.val] s.curve.points[k.val + 1] ≤ target ∧
        target ≤ max s.curve.points[k.val] s.curve.points[k.val + 1] ∧
        (s.curve.points[k.val] < s.curve.points[k.val + 1] → target < s.curve.points[k.val + 1])) ∧
      (s.curve.stormLevel = 0 → exec .loadWindowExpiry s = .next ended) ∧
      (s.curve.stormLevel ≠ 0 → s.windowCount < s.curve.stormLevel →
        exec .loadWindowExpiry s = .next { ended with stormVote := 0 }) ∧
      (s.curve.stormLevel ≠ 0 → s.curve.stormLevel ≤ s.windowCount → s.stormVote < 2 →
        exec .loadWindowExpiry s = .next { stormy with stormVote := s.stormVote + 1 }) ∧
      (s.curve.stormLevel ≠ 0 → s.curve.stormLevel ≤ s.windowCount → 2 ≤ s.stormVote →
        exec .loadWindowExpiry s = .next
          (addWeight s.curve.stormLane s.curve.stormWeight { stormy with stormVote := 0 }))

/-- Timer expiries. A TENTATIVE or a CONTESTED entry becomes DEFENDED, its conflict record kept (R50, R52). Patience deasserts WAKE and
starts a gap of 100 ms while the re-signal count is below 3; the gap's end asserts WAKE, raises the count and starts patience again
while it is below 3 (R173). -/
def Obligations.Address_and_wake_timers_expire : Prop :=
  (∀ (s : State) (i : Fin 16) (e : AddrEntry), s.active = true → s.entries[i] = some e →
    (e.state = .tentative → e.tentativeTimer.isSome = true →
      exec (.tentativeExpiry i) s = .next
        { s with entries := s.entries.set i (some { e with state := .defended, tentativeTimer := none }) }) ∧
    (e.state = .contested → e.contestTimer.isSome = true →
      exec (.contestExpiry i) s = .next
        { s with entries := s.entries.set i (some { e with state := .defended, contestTimer := none }) })) ∧
  ∀ s : State, s.proxy = .waking →
    (s.patienceTimer.isSome = true → s.resignals < 3 →
      exec .patienceExpiry s = .next { s with wake := false, patienceTimer := none, gapTimer := some 100 }) ∧
    (s.gapTimer.isSome = true → s.resignals + 1 < 3 →
      exec .gapExpiry s = .next
        { s with
          wake := true, gapTimer := none, resignals := s.resignals + 1,
          patienceTimer := some (1000 * s.station.wakePatience) }) ∧
    (s.gapTimer.isSome = true → s.resignals + 1 = 3 →
      exec .gapExpiry s = .next
        { s with wake := true, gapTimer := none, resignals := 3, patienceTimer := none })

/-- One millisecond (R2): elapsed time rises and saturates in PROXY, WAKING and HANDBACK, and stands in IDLE and REPORT. In PROXY and
WAKING every running timer has one less to run, which is the model's own form of a timer (log 2). -/
def Obligations.Elapsed_time_counts_and_timers_run_down : Prop :=
  (∀ s : State, s.proxy = .idle ∨ s.proxy = .report → exec .elapsedTimeAdvance s = .next s) ∧
  (∀ s : State, s.proxy = .handback →
    exec .elapsedTimeAdvance s = .next { s with elapsed := min (s.elapsed + 1) 4294967295 }) ∧
  ∀ s : State, s.active = true →
    exec .elapsedTimeAdvance s = .next
      { s with
        elapsed := min (s.elapsed + 1) 4294967295
        entries := Vector.ofFn fun i : Fin 16 => (s.entries[i]).map fun e =>
          { e with tentativeTimer := e.tentativeTimer.map (· - 1), contestTimer := e.contestTimer.map (· - 1) }
        duties := Vector.ofFn fun d : Fin 12 => { s.duties[d] with
          duty := (s.duties[d]).duty.map fun u => { u with run := { u.run with timer := u.run.timer.map (· - 1) } } }
        windowTimer := s.windowTimer.map (· - 1)
        decayTimer := s.decayTimer.map (· - 1)
        settleTimer := s.settleTimer.map (· - 1)
        patienceTimer := s.patienceTimer.map (· - 1)
        gapTimer := s.gapTimer.map (· - 1) }
end

