-- ==== Sys2Proof/Laws/Bytes.lean ====
section
/-! SUPPORT. Laws of the byte helpers: what a number written to bytes reads back as, and what writing over a byte list does. -/

namespace Sys2Proof.Machine

@[simp] theorem bytesOfNat_length (w n : Nat) : (bytesOfNat w n).length = w := by
  induction w with
  | zero => rfl
  | succ w ih => simp [bytesOfNat, ih]

theorem natOfBytes_foldl (bs : List Byte) (a : Nat) :
    bs.foldl (fun acc b => acc * 256 + b.toNat) a = a * 256 ^ bs.length + natOfBytes bs := by
  induction bs generalizing a with
  | nil => simp [natOfBytes]
  | cons b bs ih =>
    simp only [List.foldl_cons, natOfBytes, List.length_cons]
    rw [ih, ih (0 * 256 + b.toNat)]
    ring

@[simp] theorem natOfBytes_nil : natOfBytes [] = 0 := rfl

theorem natOfBytes_cons (b : Byte) (bs : List Byte) : natOfBytes (b :: bs) = b.toNat * 256 ^ bs.length + natOfBytes bs := by
  have := natOfBytes_foldl bs b.toNat
  simpa [natOfBytes] using this

theorem natOfBytes_append (as bs : List Byte) : natOfBytes (as ++ bs) = natOfBytes as * 256 ^ bs.length + natOfBytes bs := by
  rw [natOfBytes, List.foldl_append, natOfBytes_foldl]
  rfl

/-- A number written to `w` bytes reads back modulo 256^w. -/
@[simp] theorem natOfBytes_bytesOfNat (w n : Nat) : natOfBytes (bytesOfNat w n) = n % 256 ^ w := by
  induction w with
  | zero => simp [bytesOfNat, Nat.mod_one]
  | succ w ih =>
    have h : n % (256 ^ w * 256) = n % 256 ^ w + 256 ^ w * (n / 256 ^ w % 256) := Nat.mod_mul
    have e : (2 : Nat) ^ 8 = 256 := rfl
    rw [bytesOfNat, natOfBytes_cons, ih, bytesOfNat_length, BitVec.toNat_ofNat, e, pow_succ 256 w, h]
    ring

theorem natOfBytes_lt (bs : List Byte) : natOfBytes bs < 256 ^ bs.length := by
  induction bs with
  | nil => simp
  | cons b bs ih =>
    rw [natOfBytes_cons, List.length_cons, pow_succ]
    have := b.isLt
    nlinarith

@[simp] theorem slice_zero_append (as bs : List Byte) (n : Nat) (h : as.length = n) : slice (as ++ bs) 0 n = as := by
  simp [slice, ← h]

theorem slice_append_right (as bs : List Byte) (off n : Nat) (h : as.length ≤ off) :
    slice (as ++ bs) off n = slice bs (off - as.length) n := by
  simp [slice, List.drop_append, List.drop_eq_nil_of_le h]

@[simp] theorem overlay_length (bs : List Byte) (off : Nat) (ws : List Byte) : (overlay bs off ws).length = bs.length := by
  induction bs, off, ws using overlay.induct <;> simp_all [overlay]

@[simp] theorem overlay_nil_right (bs : List Byte) (off : Nat) : overlay bs off [] = bs := by
  induction bs generalizing off with
  | nil => rfl
  | cons b bs ih => cases off <;> simp [overlay, ih]

/-- What writing inside a byte list gives: the bytes before, the new bytes, the bytes after. -/
theorem overlay_eq (bs : List Byte) (off : Nat) (ws : List Byte) (h : off + ws.length ≤ bs.length) :
    overlay bs off ws = bs.take off ++ ws ++ bs.drop (off + ws.length) := by
  induction bs generalizing off ws with
  | nil =>
    have h1 : off = 0 := by simp at h; omega
    have h2 : ws = [] := List.eq_nil_of_length_eq_zero (by rw [List.length_nil] at h; omega)
    subst h1 h2; rfl
  | cons b bs ih =>
    cases off with
    | zero =>
      cases ws with
      | nil => rfl
      | cons w ws =>
        have := ih 0 ws (by simp at h ⊢; omega)
        simp [overlay, this]
    | succ off =>
      have := ih off ws (by simp at h ⊢; omega)
      have e : off + 1 + ws.length = off + ws.length + 1 := by omega
      rw [overlay, this, e]
      simp

/-- A patch never changes the frame length (R71). -/
@[simp] theorem applyPatch_length (s : State) (ops : BuildOperands) (buf : List Byte) (p : Patch) :
    (applyPatch s ops buf p).length = buf.length := by
  cases p with
  | fillEntry dest source =>
    cases source <;> simp only [applyPatch] <;> split <;> simp
  | _ => simp [applyPatch]

/-- The patches of a build keep the template's length (R71). -/
@[simp] theorem patched_length (s : State) (ops : BuildOperands) (buf : List Byte) (ps : List Patch) :
    (ps.foldl (applyPatch s ops) buf).length = buf.length := by
  induction ps generalizing buf with
  | nil => rfl
  | cons p ps ih => simp [ih]

/-- The words of a piece of even length and those of the rest add up (R77, R78). -/
theorem wordSum_append : ∀ (as bs : List Byte), as.length % 2 = 0 → wordSum (as ++ bs) = wordSum as + wordSum bs
  | [], bs, _ => by simp [wordSum]
  | [_], _, h => absurd h (by simp)
  | hi :: lo :: as, bs, h => by
    have := wordSum_append as bs (by simp at h; omega)
    simp only [List.cons_append, wordSum, this]
    omega

/-- A template of the pool is found by its id, ids being unique (R65). -/
theorem template?_of_mem (s : State) (id : Fin 48) (bytes : List Byte) (ids : (s.pool.map Prod.fst).Nodup)
    (loaded : (id, bytes) ∈ s.pool) : template? s id = some bytes := by
  unfold template?
  revert ids loaded
  generalize s.pool = pool
  intro ids loaded
  induction pool with
  | nil => cases loaded
  | cons t pool ih =>
    obtain ⟨fresh, ids⟩ := List.nodup_cons.1 ids
    rcases List.mem_cons.1 loaded with rfl | later
    · simp
    · have : t.1 ≠ id := fun e => fresh (e ▸ List.mem_map_of_mem later)
      simp [this, ih ids later]

/-- The length of a finished frame (R80, R81). -/
theorem buildFrame_length (s : State) (template : List Byte) (ps : List Patch) (ops : BuildOperands) :
    (buildFrame s template ps ops).length = max 60 template.length + (if s.station.vlan.isSome then 4 else 0) := by
  cases h : s.station.vlan <;> simp [buildFrame, tagFrame, padFrame, h] <;> omega

end Sys2Proof.Machine
end

