-- ==== Sys2Proof/Laws/State.lean ====
section
/-! SUPPORT. One lemma per field per named update of State, each true by unfolding the update once: a proof that reads a field
after one of these updates simplifies and never unfolds the record. -/

namespace Sys2Proof.Machine

/-! ### count -/

@[simp] theorem count_proxy (f : Stats → Stats) (s : State) : (s.count f).proxy = s.proxy := rfl
@[simp] theorem count_elapsed (f : Stats → Stats) (s : State) : (s.count f).elapsed = s.elapsed := rfl
@[simp] theorem count_hostInitiated (f : Stats → Stats) (s : State) : (s.count f).hostInitiated = s.hostInitiated := rfl
@[simp] theorem count_reclaimState (f : Stats → Stats) (s : State) : (s.count f).reclaimState = s.reclaimState := rfl
@[simp] theorem count_reclaimTime (f : Stats → Stats) (s : State) : (s.count f).reclaimTime = s.reclaimTime := rfl
@[simp] theorem count_station (f : Stats → Stats) (s : State) : (s.count f).station = s.station := rfl
@[simp] theorem count_stats (f : Stats → Stats) (s : State) : (s.count f).stats = f s.stats := rfl
@[simp] theorem count_matchCounts (f : Stats → Stats) (s : State) : (s.count f).matchCounts = s.matchCounts := rfl
@[simp] theorem count_entries (f : Stats → Stats) (s : State) : (s.count f).entries = s.entries := rfl
@[simp] theorem count_groups (f : Stats → Stats) (s : State) : (s.count f).groups = s.groups := rfl
@[simp] theorem count_rules (f : Stats → Stats) (s : State) : (s.count f).rules = s.rules := rfl
@[simp] theorem count_pool (f : Stats → Stats) (s : State) : (s.count f).pool = s.pool := rfl
@[simp] theorem count_patchLists (f : Stats → Stats) (s : State) : (s.count f).patchLists = s.patchLists := rfl
@[simp] theorem count_queue (f : Stats → Stats) (s : State) : (s.count f).queue = s.queue := rfl
@[simp] theorem count_linkState (f : Stats → Stats) (s : State) : (s.count f).linkState = s.linkState := rfl
@[simp] theorem count_owner (f : Stats → Stats) (s : State) : (s.count f).owner = s.owner := rfl
@[simp] theorem count_duties (f : Stats → Stats) (s : State) : (s.count f).duties = s.duties := rfl
@[simp] theorem count_net (f : Stats → Stats) (s : State) : (s.count f).net = s.net := rfl
@[simp] theorem count_signature (f : Stats → Stats) (s : State) : (s.count f).signature = s.signature := rfl
@[simp] theorem count_curve (f : Stats → Stats) (s : State) : (s.count f).curve = s.curve := rfl
@[simp] theorem count_windowCount (f : Stats → Stats) (s : State) : (s.count f).windowCount = s.windowCount := rfl
@[simp] theorem count_budget (f : Stats → Stats) (s : State) : (s.count f).budget = s.budget := rfl
@[simp] theorem count_spent (f : Stats → Stats) (s : State) : (s.count f).spent = s.spent := rfl
@[simp] theorem count_stormVote (f : Stats → Stats) (s : State) : (s.count f).stormVote = s.stormVote := rfl
@[simp] theorem count_windowTimer (f : Stats → Stats) (s : State) : (s.count f).windowTimer = s.windowTimer := rfl
@[simp] theorem count_lanes (f : Stats → Stats) (s : State) : (s.count f).lanes = s.lanes := rfl
@[simp] theorem count_laneSettings (f : Stats → Stats) (s : State) : (s.count f).laneSettings = s.laneSettings := rfl
@[simp] theorem count_reasons (f : Stats → Stats) (s : State) : (s.count f).reasons = s.reasons := rfl
@[simp] theorem count_firstReason (f : Stats → Stats) (s : State) : (s.count f).firstReason = s.firstReason := rfl
@[simp] theorem count_resignals (f : Stats → Stats) (s : State) : (s.count f).resignals = s.resignals := rfl
@[simp] theorem count_decayTimer (f : Stats → Stats) (s : State) : (s.count f).decayTimer = s.decayTimer := rfl
@[simp] theorem count_settleTimer (f : Stats → Stats) (s : State) : (s.count f).settleTimer = s.settleTimer := rfl
@[simp] theorem count_patienceTimer (f : Stats → Stats) (s : State) : (s.count f).patienceTimer = s.patienceTimer := rfl
@[simp] theorem count_gapTimer (f : Stats → Stats) (s : State) : (s.count f).gapTimer = s.gapTimer := rfl
@[simp] theorem count_wake (f : Stats → Stats) (s : State) : (s.count f).wake = s.wake := rfl
@[simp] theorem count_held (f : Stats → Stats) (s : State) : (s.count f).held = s.held := rfl
@[simp] theorem count_report (f : Stats → Stats) (s : State) : (s.count f).report = s.report := rfl
@[simp] theorem count_reply (f : Stats → Stats) (s : State) : (s.count f).reply = s.reply := rfl
@[simp] theorem count_readyPending (f : Stats → Stats) (s : State) : (s.count f).readyPending = s.readyPending := rfl
@[simp] theorem count_handbackDonePending (f : Stats → Stats) (s : State) : (s.count f).handbackDonePending = s.handbackDonePending := rfl
@[simp] theorem count_portOut (f : Stats → Stats) (s : State) : (s.count f).portOut = s.portOut := rfl
@[simp] theorem count_linkOut (f : Stats → Stats) (s : State) : (s.count f).linkOut = s.linkOut := rfl
@[simp] theorem count_freeCount (f : Stats → Stats) (s : State) : (s.count f).freeCount = s.freeCount := rfl
@[simp] theorem count_pending (f : Stats → Stats) (s : State) : (s.count f).pending = s.pending := rfl

/-! ### countMatch -/

@[simp] theorem countMatch_proxy (i : Fin 32) (s : State) : (countMatch i s).proxy = s.proxy := rfl
@[simp] theorem countMatch_elapsed (i : Fin 32) (s : State) : (countMatch i s).elapsed = s.elapsed := rfl
@[simp] theorem countMatch_hostInitiated (i : Fin 32) (s : State) : (countMatch i s).hostInitiated = s.hostInitiated := rfl
@[simp] theorem countMatch_reclaimState (i : Fin 32) (s : State) : (countMatch i s).reclaimState = s.reclaimState := rfl
@[simp] theorem countMatch_reclaimTime (i : Fin 32) (s : State) : (countMatch i s).reclaimTime = s.reclaimTime := rfl
@[simp] theorem countMatch_station (i : Fin 32) (s : State) : (countMatch i s).station = s.station := rfl
@[simp] theorem countMatch_stats (i : Fin 32) (s : State) : (countMatch i s).stats = s.stats := rfl
@[simp] theorem countMatch_matchCounts (i : Fin 32) (s : State) : (countMatch i s).matchCounts = s.matchCounts.set i (satAdd32 s.matchCounts[i] 1) := rfl
@[simp] theorem countMatch_entries (i : Fin 32) (s : State) : (countMatch i s).entries = s.entries := rfl
@[simp] theorem countMatch_groups (i : Fin 32) (s : State) : (countMatch i s).groups = s.groups := rfl
@[simp] theorem countMatch_rules (i : Fin 32) (s : State) : (countMatch i s).rules = s.rules := rfl
@[simp] theorem countMatch_pool (i : Fin 32) (s : State) : (countMatch i s).pool = s.pool := rfl
@[simp] theorem countMatch_patchLists (i : Fin 32) (s : State) : (countMatch i s).patchLists = s.patchLists := rfl
@[simp] theorem countMatch_queue (i : Fin 32) (s : State) : (countMatch i s).queue = s.queue := rfl
@[simp] theorem countMatch_linkState (i : Fin 32) (s : State) : (countMatch i s).linkState = s.linkState := rfl
@[simp] theorem countMatch_owner (i : Fin 32) (s : State) : (countMatch i s).owner = s.owner := rfl
@[simp] theorem countMatch_duties (i : Fin 32) (s : State) : (countMatch i s).duties = s.duties := rfl
@[simp] theorem countMatch_net (i : Fin 32) (s : State) : (countMatch i s).net = s.net := rfl
@[simp] theorem countMatch_signature (i : Fin 32) (s : State) : (countMatch i s).signature = s.signature := rfl
@[simp] theorem countMatch_curve (i : Fin 32) (s : State) : (countMatch i s).curve = s.curve := rfl
@[simp] theorem countMatch_windowCount (i : Fin 32) (s : State) : (countMatch i s).windowCount = s.windowCount := rfl
@[simp] theorem countMatch_budget (i : Fin 32) (s : State) : (countMatch i s).budget = s.budget := rfl
@[simp] theorem countMatch_spent (i : Fin 32) (s : State) : (countMatch i s).spent = s.spent := rfl
@[simp] theorem countMatch_stormVote (i : Fin 32) (s : State) : (countMatch i s).stormVote = s.stormVote := rfl
@[simp] theorem countMatch_windowTimer (i : Fin 32) (s : State) : (countMatch i s).windowTimer = s.windowTimer := rfl
@[simp] theorem countMatch_lanes (i : Fin 32) (s : State) : (countMatch i s).lanes = s.lanes := rfl
@[simp] theorem countMatch_laneSettings (i : Fin 32) (s : State) : (countMatch i s).laneSettings = s.laneSettings := rfl
@[simp] theorem countMatch_reasons (i : Fin 32) (s : State) : (countMatch i s).reasons = s.reasons := rfl
@[simp] theorem countMatch_firstReason (i : Fin 32) (s : State) : (countMatch i s).firstReason = s.firstReason := rfl
@[simp] theorem countMatch_resignals (i : Fin 32) (s : State) : (countMatch i s).resignals = s.resignals := rfl
@[simp] theorem countMatch_decayTimer (i : Fin 32) (s : State) : (countMatch i s).decayTimer = s.decayTimer := rfl
@[simp] theorem countMatch_settleTimer (i : Fin 32) (s : State) : (countMatch i s).settleTimer = s.settleTimer := rfl
@[simp] theorem countMatch_patienceTimer (i : Fin 32) (s : State) : (countMatch i s).patienceTimer = s.patienceTimer := rfl
@[simp] theorem countMatch_gapTimer (i : Fin 32) (s : State) : (countMatch i s).gapTimer = s.gapTimer := rfl
@[simp] theorem countMatch_wake (i : Fin 32) (s : State) : (countMatch i s).wake = s.wake := rfl
@[simp] theorem countMatch_held (i : Fin 32) (s : State) : (countMatch i s).held = s.held := rfl
@[simp] theorem countMatch_report (i : Fin 32) (s : State) : (countMatch i s).report = s.report := rfl
@[simp] theorem countMatch_reply (i : Fin 32) (s : State) : (countMatch i s).reply = s.reply := rfl
@[simp] theorem countMatch_readyPending (i : Fin 32) (s : State) : (countMatch i s).readyPending = s.readyPending := rfl
@[simp] theorem countMatch_handbackDonePending (i : Fin 32) (s : State) : (countMatch i s).handbackDonePending = s.handbackDonePending := rfl
@[simp] theorem countMatch_portOut (i : Fin 32) (s : State) : (countMatch i s).portOut = s.portOut := rfl
@[simp] theorem countMatch_linkOut (i : Fin 32) (s : State) : (countMatch i s).linkOut = s.linkOut := rfl
@[simp] theorem countMatch_freeCount (i : Fin 32) (s : State) : (countMatch i s).freeCount = s.freeCount := rfl
@[simp] theorem countMatch_pending (i : Fin 32) (s : State) : (countMatch i s).pending = s.pending := rfl

/-! ### updEntry -/

@[simp] theorem updEntry_proxy (i : Fin 16) (f : AddrEntry → AddrEntry) (s : State) : (updEntry i f s).proxy = s.proxy := rfl
@[simp] theorem updEntry_elapsed (i : Fin 16) (f : AddrEntry → AddrEntry) (s : State) : (updEntry i f s).elapsed = s.elapsed := rfl
@[simp] theorem updEntry_hostInitiated (i : Fin 16) (f : AddrEntry → AddrEntry) (s : State) : (updEntry i f s).hostInitiated = s.hostInitiated := rfl
@[simp] theorem updEntry_reclaimState (i : Fin 16) (f : AddrEntry → AddrEntry) (s : State) : (updEntry i f s).reclaimState = s.reclaimState := rfl
@[simp] theorem updEntry_reclaimTime (i : Fin 16) (f : AddrEntry → AddrEntry) (s : State) : (updEntry i f s).reclaimTime = s.reclaimTime := rfl
@[simp] theorem updEntry_station (i : Fin 16) (f : AddrEntry → AddrEntry) (s : State) : (updEntry i f s).station = s.station := rfl
@[simp] theorem updEntry_stats (i : Fin 16) (f : AddrEntry → AddrEntry) (s : State) : (updEntry i f s).stats = s.stats := rfl
@[simp] theorem updEntry_matchCounts (i : Fin 16) (f : AddrEntry → AddrEntry) (s : State) : (updEntry i f s).matchCounts = s.matchCounts := rfl
@[simp] theorem updEntry_entries (i : Fin 16) (f : AddrEntry → AddrEntry) (s : State) : (updEntry i f s).entries = s.entries.set i (s.entries[i].map f) := rfl
@[simp] theorem updEntry_groups (i : Fin 16) (f : AddrEntry → AddrEntry) (s : State) : (updEntry i f s).groups = s.groups := rfl
@[simp] theorem updEntry_rules (i : Fin 16) (f : AddrEntry → AddrEntry) (s : State) : (updEntry i f s).rules = s.rules := rfl
@[simp] theorem updEntry_pool (i : Fin 16) (f : AddrEntry → AddrEntry) (s : State) : (updEntry i f s).pool = s.pool := rfl
@[simp] theorem updEntry_patchLists (i : Fin 16) (f : AddrEntry → AddrEntry) (s : State) : (updEntry i f s).patchLists = s.patchLists := rfl
@[simp] theorem updEntry_queue (i : Fin 16) (f : AddrEntry → AddrEntry) (s : State) : (updEntry i f s).queue = s.queue := rfl
@[simp] theorem updEntry_linkState (i : Fin 16) (f : AddrEntry → AddrEntry) (s : State) : (updEntry i f s).linkState = s.linkState := rfl
@[simp] theorem updEntry_owner (i : Fin 16) (f : AddrEntry → AddrEntry) (s : State) : (updEntry i f s).owner = s.owner := rfl
@[simp] theorem updEntry_duties (i : Fin 16) (f : AddrEntry → AddrEntry) (s : State) : (updEntry i f s).duties = s.duties := rfl
@[simp] theorem updEntry_net (i : Fin 16) (f : AddrEntry → AddrEntry) (s : State) : (updEntry i f s).net = s.net := rfl
@[simp] theorem updEntry_signature (i : Fin 16) (f : AddrEntry → AddrEntry) (s : State) : (updEntry i f s).signature = s.signature := rfl
@[simp] theorem updEntry_curve (i : Fin 16) (f : AddrEntry → AddrEntry) (s : State) : (updEntry i f s).curve = s.curve := rfl
@[simp] theorem updEntry_windowCount (i : Fin 16) (f : AddrEntry → AddrEntry) (s : State) : (updEntry i f s).windowCount = s.windowCount := rfl
@[simp] theorem updEntry_budget (i : Fin 16) (f : AddrEntry → AddrEntry) (s : State) : (updEntry i f s).budget = s.budget := rfl
@[simp] theorem updEntry_spent (i : Fin 16) (f : AddrEntry → AddrEntry) (s : State) : (updEntry i f s).spent = s.spent := rfl
@[simp] theorem updEntry_stormVote (i : Fin 16) (f : AddrEntry → AddrEntry) (s : State) : (updEntry i f s).stormVote = s.stormVote := rfl
@[simp] theorem updEntry_windowTimer (i : Fin 16) (f : AddrEntry → AddrEntry) (s : State) : (updEntry i f s).windowTimer = s.windowTimer := rfl
@[simp] theorem updEntry_lanes (i : Fin 16) (f : AddrEntry → AddrEntry) (s : State) : (updEntry i f s).lanes = s.lanes := rfl
@[simp] theorem updEntry_laneSettings (i : Fin 16) (f : AddrEntry → AddrEntry) (s : State) : (updEntry i f s).laneSettings = s.laneSettings := rfl
@[simp] theorem updEntry_reasons (i : Fin 16) (f : AddrEntry → AddrEntry) (s : State) : (updEntry i f s).reasons = s.reasons := rfl
@[simp] theorem updEntry_firstReason (i : Fin 16) (f : AddrEntry → AddrEntry) (s : State) : (updEntry i f s).firstReason = s.firstReason := rfl
@[simp] theorem updEntry_resignals (i : Fin 16) (f : AddrEntry → AddrEntry) (s : State) : (updEntry i f s).resignals = s.resignals := rfl
@[simp] theorem updEntry_decayTimer (i : Fin 16) (f : AddrEntry → AddrEntry) (s : State) : (updEntry i f s).decayTimer = s.decayTimer := rfl
@[simp] theorem updEntry_settleTimer (i : Fin 16) (f : AddrEntry → AddrEntry) (s : State) : (updEntry i f s).settleTimer = s.settleTimer := rfl
@[simp] theorem updEntry_patienceTimer (i : Fin 16) (f : AddrEntry → AddrEntry) (s : State) : (updEntry i f s).patienceTimer = s.patienceTimer := rfl
@[simp] theorem updEntry_gapTimer (i : Fin 16) (f : AddrEntry → AddrEntry) (s : State) : (updEntry i f s).gapTimer = s.gapTimer := rfl
@[simp] theorem updEntry_wake (i : Fin 16) (f : AddrEntry → AddrEntry) (s : State) : (updEntry i f s).wake = s.wake := rfl
@[simp] theorem updEntry_held (i : Fin 16) (f : AddrEntry → AddrEntry) (s : State) : (updEntry i f s).held = s.held := rfl
@[simp] theorem updEntry_report (i : Fin 16) (f : AddrEntry → AddrEntry) (s : State) : (updEntry i f s).report = s.report := rfl
@[simp] theorem updEntry_reply (i : Fin 16) (f : AddrEntry → AddrEntry) (s : State) : (updEntry i f s).reply = s.reply := rfl
@[simp] theorem updEntry_readyPending (i : Fin 16) (f : AddrEntry → AddrEntry) (s : State) : (updEntry i f s).readyPending = s.readyPending := rfl
@[simp] theorem updEntry_handbackDonePending (i : Fin 16) (f : AddrEntry → AddrEntry) (s : State) : (updEntry i f s).handbackDonePending = s.handbackDonePending := rfl
@[simp] theorem updEntry_portOut (i : Fin 16) (f : AddrEntry → AddrEntry) (s : State) : (updEntry i f s).portOut = s.portOut := rfl
@[simp] theorem updEntry_linkOut (i : Fin 16) (f : AddrEntry → AddrEntry) (s : State) : (updEntry i f s).linkOut = s.linkOut := rfl
@[simp] theorem updEntry_freeCount (i : Fin 16) (f : AddrEntry → AddrEntry) (s : State) : (updEntry i f s).freeCount = s.freeCount := rfl
@[simp] theorem updEntry_pending (i : Fin 16) (f : AddrEntry → AddrEntry) (s : State) : (updEntry i f s).pending = s.pending := rfl

/-! ### updRun -/

@[simp] theorem updRun_proxy (d : Fin 12) (f : DutyRun → DutyRun) (s : State) : (updRun d f s).proxy = s.proxy := rfl
@[simp] theorem updRun_elapsed (d : Fin 12) (f : DutyRun → DutyRun) (s : State) : (updRun d f s).elapsed = s.elapsed := rfl
@[simp] theorem updRun_hostInitiated (d : Fin 12) (f : DutyRun → DutyRun) (s : State) : (updRun d f s).hostInitiated = s.hostInitiated := rfl
@[simp] theorem updRun_reclaimState (d : Fin 12) (f : DutyRun → DutyRun) (s : State) : (updRun d f s).reclaimState = s.reclaimState := rfl
@[simp] theorem updRun_reclaimTime (d : Fin 12) (f : DutyRun → DutyRun) (s : State) : (updRun d f s).reclaimTime = s.reclaimTime := rfl
@[simp] theorem updRun_station (d : Fin 12) (f : DutyRun → DutyRun) (s : State) : (updRun d f s).station = s.station := rfl
@[simp] theorem updRun_stats (d : Fin 12) (f : DutyRun → DutyRun) (s : State) : (updRun d f s).stats = s.stats := rfl
@[simp] theorem updRun_matchCounts (d : Fin 12) (f : DutyRun → DutyRun) (s : State) : (updRun d f s).matchCounts = s.matchCounts := rfl
@[simp] theorem updRun_entries (d : Fin 12) (f : DutyRun → DutyRun) (s : State) : (updRun d f s).entries = s.entries := rfl
@[simp] theorem updRun_groups (d : Fin 12) (f : DutyRun → DutyRun) (s : State) : (updRun d f s).groups = s.groups := rfl
@[simp] theorem updRun_rules (d : Fin 12) (f : DutyRun → DutyRun) (s : State) : (updRun d f s).rules = s.rules := rfl
@[simp] theorem updRun_pool (d : Fin 12) (f : DutyRun → DutyRun) (s : State) : (updRun d f s).pool = s.pool := rfl
@[simp] theorem updRun_patchLists (d : Fin 12) (f : DutyRun → DutyRun) (s : State) : (updRun d f s).patchLists = s.patchLists := rfl
@[simp] theorem updRun_queue (d : Fin 12) (f : DutyRun → DutyRun) (s : State) : (updRun d f s).queue = s.queue := rfl
@[simp] theorem updRun_linkState (d : Fin 12) (f : DutyRun → DutyRun) (s : State) : (updRun d f s).linkState = s.linkState := rfl
@[simp] theorem updRun_owner (d : Fin 12) (f : DutyRun → DutyRun) (s : State) : (updRun d f s).owner = s.owner := rfl
@[simp] theorem updRun_net (d : Fin 12) (f : DutyRun → DutyRun) (s : State) : (updRun d f s).net = s.net := rfl
@[simp] theorem updRun_signature (d : Fin 12) (f : DutyRun → DutyRun) (s : State) : (updRun d f s).signature = s.signature := rfl
@[simp] theorem updRun_curve (d : Fin 12) (f : DutyRun → DutyRun) (s : State) : (updRun d f s).curve = s.curve := rfl
@[simp] theorem updRun_windowCount (d : Fin 12) (f : DutyRun → DutyRun) (s : State) : (updRun d f s).windowCount = s.windowCount := rfl
@[simp] theorem updRun_budget (d : Fin 12) (f : DutyRun → DutyRun) (s : State) : (updRun d f s).budget = s.budget := rfl
@[simp] theorem updRun_spent (d : Fin 12) (f : DutyRun → DutyRun) (s : State) : (updRun d f s).spent = s.spent := rfl
@[simp] theorem updRun_stormVote (d : Fin 12) (f : DutyRun → DutyRun) (s : State) : (updRun d f s).stormVote = s.stormVote := rfl
@[simp] theorem updRun_windowTimer (d : Fin 12) (f : DutyRun → DutyRun) (s : State) : (updRun d f s).windowTimer = s.windowTimer := rfl
@[simp] theorem updRun_lanes (d : Fin 12) (f : DutyRun → DutyRun) (s : State) : (updRun d f s).lanes = s.lanes := rfl
@[simp] theorem updRun_laneSettings (d : Fin 12) (f : DutyRun → DutyRun) (s : State) : (updRun d f s).laneSettings = s.laneSettings := rfl
@[simp] theorem updRun_reasons (d : Fin 12) (f : DutyRun → DutyRun) (s : State) : (updRun d f s).reasons = s.reasons := rfl
@[simp] theorem updRun_firstReason (d : Fin 12) (f : DutyRun → DutyRun) (s : State) : (updRun d f s).firstReason = s.firstReason := rfl
@[simp] theorem updRun_resignals (d : Fin 12) (f : DutyRun → DutyRun) (s : State) : (updRun d f s).resignals = s.resignals := rfl
@[simp] theorem updRun_decayTimer (d : Fin 12) (f : DutyRun → DutyRun) (s : State) : (updRun d f s).decayTimer = s.decayTimer := rfl
@[simp] theorem updRun_settleTimer (d : Fin 12) (f : DutyRun → DutyRun) (s : State) : (updRun d f s).settleTimer = s.settleTimer := rfl
@[simp] theorem updRun_patienceTimer (d : Fin 12) (f : DutyRun → DutyRun) (s : State) : (updRun d f s).patienceTimer = s.patienceTimer := rfl
@[simp] theorem updRun_gapTimer (d : Fin 12) (f : DutyRun → DutyRun) (s : State) : (updRun d f s).gapTimer = s.gapTimer := rfl
@[simp] theorem updRun_wake (d : Fin 12) (f : DutyRun → DutyRun) (s : State) : (updRun d f s).wake = s.wake := rfl
@[simp] theorem updRun_held (d : Fin 12) (f : DutyRun → DutyRun) (s : State) : (updRun d f s).held = s.held := rfl
@[simp] theorem updRun_report (d : Fin 12) (f : DutyRun → DutyRun) (s : State) : (updRun d f s).report = s.report := rfl
@[simp] theorem updRun_reply (d : Fin 12) (f : DutyRun → DutyRun) (s : State) : (updRun d f s).reply = s.reply := rfl
@[simp] theorem updRun_readyPending (d : Fin 12) (f : DutyRun → DutyRun) (s : State) : (updRun d f s).readyPending = s.readyPending := rfl
@[simp] theorem updRun_handbackDonePending (d : Fin 12) (f : DutyRun → DutyRun) (s : State) : (updRun d f s).handbackDonePending = s.handbackDonePending := rfl
@[simp] theorem updRun_portOut (d : Fin 12) (f : DutyRun → DutyRun) (s : State) : (updRun d f s).portOut = s.portOut := rfl
@[simp] theorem updRun_linkOut (d : Fin 12) (f : DutyRun → DutyRun) (s : State) : (updRun d f s).linkOut = s.linkOut := rfl
@[simp] theorem updRun_freeCount (d : Fin 12) (f : DutyRun → DutyRun) (s : State) : (updRun d f s).freeCount = s.freeCount := rfl
@[simp] theorem updRun_pending (d : Fin 12) (f : DutyRun → DutyRun) (s : State) : (updRun d f s).pending = s.pending := rfl

/-! ### mapRuns -/

@[simp] theorem mapRuns_proxy (f : Fin 12 → DutySlot → DutyRun → DutyRun) (s : State) : (mapRuns f s).proxy = s.proxy := rfl
@[simp] theorem mapRuns_elapsed (f : Fin 12 → DutySlot → DutyRun → DutyRun) (s : State) : (mapRuns f s).elapsed = s.elapsed := rfl
@[simp] theorem mapRuns_hostInitiated (f : Fin 12 → DutySlot → DutyRun → DutyRun) (s : State) : (mapRuns f s).hostInitiated = s.hostInitiated := rfl
@[simp] theorem mapRuns_reclaimState (f : Fin 12 → DutySlot → DutyRun → DutyRun) (s : State) : (mapRuns f s).reclaimState = s.reclaimState := rfl
@[simp] theorem mapRuns_reclaimTime (f : Fin 12 → DutySlot → DutyRun → DutyRun) (s : State) : (mapRuns f s).reclaimTime = s.reclaimTime := rfl
@[simp] theorem mapRuns_station (f : Fin 12 → DutySlot → DutyRun → DutyRun) (s : State) : (mapRuns f s).station = s.station := rfl
@[simp] theorem mapRuns_stats (f : Fin 12 → DutySlot → DutyRun → DutyRun) (s : State) : (mapRuns f s).stats = s.stats := rfl
@[simp] theorem mapRuns_matchCounts (f : Fin 12 → DutySlot → DutyRun → DutyRun) (s : State) : (mapRuns f s).matchCounts = s.matchCounts := rfl
@[simp] theorem mapRuns_entries (f : Fin 12 → DutySlot → DutyRun → DutyRun) (s : State) : (mapRuns f s).entries = s.entries := rfl
@[simp] theorem mapRuns_groups (f : Fin 12 → DutySlot → DutyRun → DutyRun) (s : State) : (mapRuns f s).groups = s.groups := rfl
@[simp] theorem mapRuns_rules (f : Fin 12 → DutySlot → DutyRun → DutyRun) (s : State) : (mapRuns f s).rules = s.rules := rfl
@[simp] theorem mapRuns_pool (f : Fin 12 → DutySlot → DutyRun → DutyRun) (s : State) : (mapRuns f s).pool = s.pool := rfl
@[simp] theorem mapRuns_patchLists (f : Fin 12 → DutySlot → DutyRun → DutyRun) (s : State) : (mapRuns f s).patchLists = s.patchLists := rfl
@[simp] theorem mapRuns_queue (f : Fin 12 → DutySlot → DutyRun → DutyRun) (s : State) : (mapRuns f s).queue = s.queue := rfl
@[simp] theorem mapRuns_linkState (f : Fin 12 → DutySlot → DutyRun → DutyRun) (s : State) : (mapRuns f s).linkState = s.linkState := rfl
@[simp] theorem mapRuns_owner (f : Fin 12 → DutySlot → DutyRun → DutyRun) (s : State) : (mapRuns f s).owner = s.owner := rfl
@[simp] theorem mapRuns_net (f : Fin 12 → DutySlot → DutyRun → DutyRun) (s : State) : (mapRuns f s).net = s.net := rfl
@[simp] theorem mapRuns_signature (f : Fin 12 → DutySlot → DutyRun → DutyRun) (s : State) : (mapRuns f s).signature = s.signature := rfl
@[simp] theorem mapRuns_curve (f : Fin 12 → DutySlot → DutyRun → DutyRun) (s : State) : (mapRuns f s).curve = s.curve := rfl
@[simp] theorem mapRuns_windowCount (f : Fin 12 → DutySlot → DutyRun → DutyRun) (s : State) : (mapRuns f s).windowCount = s.windowCount := rfl
@[simp] theorem mapRuns_budget (f : Fin 12 → DutySlot → DutyRun → DutyRun) (s : State) : (mapRuns f s).budget = s.budget := rfl
@[simp] theorem mapRuns_spent (f : Fin 12 → DutySlot → DutyRun → DutyRun) (s : State) : (mapRuns f s).spent = s.spent := rfl
@[simp] theorem mapRuns_stormVote (f : Fin 12 → DutySlot → DutyRun → DutyRun) (s : State) : (mapRuns f s).stormVote = s.stormVote := rfl
@[simp] theorem mapRuns_windowTimer (f : Fin 12 → DutySlot → DutyRun → DutyRun) (s : State) : (mapRuns f s).windowTimer = s.windowTimer := rfl
@[simp] theorem mapRuns_lanes (f : Fin 12 → DutySlot → DutyRun → DutyRun) (s : State) : (mapRuns f s).lanes = s.lanes := rfl
@[simp] theorem mapRuns_laneSettings (f : Fin 12 → DutySlot → DutyRun → DutyRun) (s : State) : (mapRuns f s).laneSettings = s.laneSettings := rfl
@[simp] theorem mapRuns_reasons (f : Fin 12 → DutySlot → DutyRun → DutyRun) (s : State) : (mapRuns f s).reasons = s.reasons := rfl
@[simp] theorem mapRuns_firstReason (f : Fin 12 → DutySlot → DutyRun → DutyRun) (s : State) : (mapRuns f s).firstReason = s.firstReason := rfl
@[simp] theorem mapRuns_resignals (f : Fin 12 → DutySlot → DutyRun → DutyRun) (s : State) : (mapRuns f s).resignals = s.resignals := rfl
@[simp] theorem mapRuns_decayTimer (f : Fin 12 → DutySlot → DutyRun → DutyRun) (s : State) : (mapRuns f s).decayTimer = s.decayTimer := rfl
@[simp] theorem mapRuns_settleTimer (f : Fin 12 → DutySlot → DutyRun → DutyRun) (s : State) : (mapRuns f s).settleTimer = s.settleTimer := rfl
@[simp] theorem mapRuns_patienceTimer (f : Fin 12 → DutySlot → DutyRun → DutyRun) (s : State) : (mapRuns f s).patienceTimer = s.patienceTimer := rfl
@[simp] theorem mapRuns_gapTimer (f : Fin 12 → DutySlot → DutyRun → DutyRun) (s : State) : (mapRuns f s).gapTimer = s.gapTimer := rfl
@[simp] theorem mapRuns_wake (f : Fin 12 → DutySlot → DutyRun → DutyRun) (s : State) : (mapRuns f s).wake = s.wake := rfl
@[simp] theorem mapRuns_held (f : Fin 12 → DutySlot → DutyRun → DutyRun) (s : State) : (mapRuns f s).held = s.held := rfl
@[simp] theorem mapRuns_report (f : Fin 12 → DutySlot → DutyRun → DutyRun) (s : State) : (mapRuns f s).report = s.report := rfl
@[simp] theorem mapRuns_reply (f : Fin 12 → DutySlot → DutyRun → DutyRun) (s : State) : (mapRuns f s).reply = s.reply := rfl
@[simp] theorem mapRuns_readyPending (f : Fin 12 → DutySlot → DutyRun → DutyRun) (s : State) : (mapRuns f s).readyPending = s.readyPending := rfl
@[simp] theorem mapRuns_handbackDonePending (f : Fin 12 → DutySlot → DutyRun → DutyRun) (s : State) : (mapRuns f s).handbackDonePending = s.handbackDonePending := rfl
@[simp] theorem mapRuns_portOut (f : Fin 12 → DutySlot → DutyRun → DutyRun) (s : State) : (mapRuns f s).portOut = s.portOut := rfl
@[simp] theorem mapRuns_linkOut (f : Fin 12 → DutySlot → DutyRun → DutyRun) (s : State) : (mapRuns f s).linkOut = s.linkOut := rfl
@[simp] theorem mapRuns_freeCount (f : Fin 12 → DutySlot → DutyRun → DutyRun) (s : State) : (mapRuns f s).freeCount = s.freeCount := rfl
@[simp] theorem mapRuns_pending (f : Fin 12 → DutySlot → DutyRun → DutyRun) (s : State) : (mapRuns f s).pending = s.pending := rfl

/-! ### enqueue -/

@[simp] theorem enqueue_proxy (o : Origin) (c : TxClass) (f : Frame) (s : State) : (enqueue o c f s).proxy = s.proxy := rfl
@[simp] theorem enqueue_elapsed (o : Origin) (c : TxClass) (f : Frame) (s : State) : (enqueue o c f s).elapsed = s.elapsed := rfl
@[simp] theorem enqueue_hostInitiated (o : Origin) (c : TxClass) (f : Frame) (s : State) : (enqueue o c f s).hostInitiated = s.hostInitiated := rfl
@[simp] theorem enqueue_reclaimState (o : Origin) (c : TxClass) (f : Frame) (s : State) : (enqueue o c f s).reclaimState = s.reclaimState := rfl
@[simp] theorem enqueue_reclaimTime (o : Origin) (c : TxClass) (f : Frame) (s : State) : (enqueue o c f s).reclaimTime = s.reclaimTime := rfl
@[simp] theorem enqueue_station (o : Origin) (c : TxClass) (f : Frame) (s : State) : (enqueue o c f s).station = s.station := rfl
@[simp] theorem enqueue_stats (o : Origin) (c : TxClass) (f : Frame) (s : State) : (enqueue o c f s).stats = s.stats := rfl
@[simp] theorem enqueue_matchCounts (o : Origin) (c : TxClass) (f : Frame) (s : State) : (enqueue o c f s).matchCounts = s.matchCounts := rfl
@[simp] theorem enqueue_entries (o : Origin) (c : TxClass) (f : Frame) (s : State) : (enqueue o c f s).entries = s.entries := rfl
@[simp] theorem enqueue_groups (o : Origin) (c : TxClass) (f : Frame) (s : State) : (enqueue o c f s).groups = s.groups := rfl
@[simp] theorem enqueue_rules (o : Origin) (c : TxClass) (f : Frame) (s : State) : (enqueue o c f s).rules = s.rules := rfl
@[simp] theorem enqueue_pool (o : Origin) (c : TxClass) (f : Frame) (s : State) : (enqueue o c f s).pool = s.pool := rfl
@[simp] theorem enqueue_patchLists (o : Origin) (c : TxClass) (f : Frame) (s : State) : (enqueue o c f s).patchLists = s.patchLists := rfl
@[simp] theorem enqueue_queue (o : Origin) (c : TxClass) (f : Frame) (s : State) : (enqueue o c f s).queue = s.queue ++ [{ origin := o, cls := c, frame := f, inFlight := false }] := rfl
@[simp] theorem enqueue_linkState (o : Origin) (c : TxClass) (f : Frame) (s : State) : (enqueue o c f s).linkState = s.linkState := rfl
@[simp] theorem enqueue_owner (o : Origin) (c : TxClass) (f : Frame) (s : State) : (enqueue o c f s).owner = s.owner := rfl
@[simp] theorem enqueue_duties (o : Origin) (c : TxClass) (f : Frame) (s : State) : (enqueue o c f s).duties = s.duties := rfl
@[simp] theorem enqueue_net (o : Origin) (c : TxClass) (f : Frame) (s : State) : (enqueue o c f s).net = s.net := rfl
@[simp] theorem enqueue_signature (o : Origin) (c : TxClass) (f : Frame) (s : State) : (enqueue o c f s).signature = s.signature := rfl
@[simp] theorem enqueue_curve (o : Origin) (c : TxClass) (f : Frame) (s : State) : (enqueue o c f s).curve = s.curve := rfl
@[simp] theorem enqueue_windowCount (o : Origin) (c : TxClass) (f : Frame) (s : State) : (enqueue o c f s).windowCount = s.windowCount := rfl
@[simp] theorem enqueue_budget (o : Origin) (c : TxClass) (f : Frame) (s : State) : (enqueue o c f s).budget = s.budget := rfl
@[simp] theorem enqueue_spent (o : Origin) (c : TxClass) (f : Frame) (s : State) : (enqueue o c f s).spent = s.spent := rfl
@[simp] theorem enqueue_stormVote (o : Origin) (c : TxClass) (f : Frame) (s : State) : (enqueue o c f s).stormVote = s.stormVote := rfl
@[simp] theorem enqueue_windowTimer (o : Origin) (c : TxClass) (f : Frame) (s : State) : (enqueue o c f s).windowTimer = s.windowTimer := rfl
@[simp] theorem enqueue_lanes (o : Origin) (c : TxClass) (f : Frame) (s : State) : (enqueue o c f s).lanes = s.lanes := rfl
@[simp] theorem enqueue_laneSettings (o : Origin) (c : TxClass) (f : Frame) (s : State) : (enqueue o c f s).laneSettings = s.laneSettings := rfl
@[simp] theorem enqueue_reasons (o : Origin) (c : TxClass) (f : Frame) (s : State) : (enqueue o c f s).reasons = s.reasons := rfl
@[simp] theorem enqueue_firstReason (o : Origin) (c : TxClass) (f : Frame) (s : State) : (enqueue o c f s).firstReason = s.firstReason := rfl
@[simp] theorem enqueue_resignals (o : Origin) (c : TxClass) (f : Frame) (s : State) : (enqueue o c f s).resignals = s.resignals := rfl
@[simp] theorem enqueue_decayTimer (o : Origin) (c : TxClass) (f : Frame) (s : State) : (enqueue o c f s).decayTimer = s.decayTimer := rfl
@[simp] theorem enqueue_settleTimer (o : Origin) (c : TxClass) (f : Frame) (s : State) : (enqueue o c f s).settleTimer = s.settleTimer := rfl
@[simp] theorem enqueue_patienceTimer (o : Origin) (c : TxClass) (f : Frame) (s : State) : (enqueue o c f s).patienceTimer = s.patienceTimer := rfl
@[simp] theorem enqueue_gapTimer (o : Origin) (c : TxClass) (f : Frame) (s : State) : (enqueue o c f s).gapTimer = s.gapTimer := rfl
@[simp] theorem enqueue_wake (o : Origin) (c : TxClass) (f : Frame) (s : State) : (enqueue o c f s).wake = s.wake := rfl
@[simp] theorem enqueue_held (o : Origin) (c : TxClass) (f : Frame) (s : State) : (enqueue o c f s).held = s.held := rfl
@[simp] theorem enqueue_report (o : Origin) (c : TxClass) (f : Frame) (s : State) : (enqueue o c f s).report = s.report := rfl
@[simp] theorem enqueue_reply (o : Origin) (c : TxClass) (f : Frame) (s : State) : (enqueue o c f s).reply = s.reply := rfl
@[simp] theorem enqueue_readyPending (o : Origin) (c : TxClass) (f : Frame) (s : State) : (enqueue o c f s).readyPending = s.readyPending := rfl
@[simp] theorem enqueue_handbackDonePending (o : Origin) (c : TxClass) (f : Frame) (s : State) : (enqueue o c f s).handbackDonePending = s.handbackDonePending := rfl
@[simp] theorem enqueue_portOut (o : Origin) (c : TxClass) (f : Frame) (s : State) : (enqueue o c f s).portOut = s.portOut := rfl
@[simp] theorem enqueue_linkOut (o : Origin) (c : TxClass) (f : Frame) (s : State) : (enqueue o c f s).linkOut = s.linkOut := rfl
@[simp] theorem enqueue_freeCount (o : Origin) (c : TxClass) (f : Frame) (s : State) : (enqueue o c f s).freeCount = s.freeCount := rfl
@[simp] theorem enqueue_pending (o : Origin) (c : TxClass) (f : Frame) (s : State) : (enqueue o c f s).pending = s.pending := rfl

/-! ### dropQueued -/

@[simp] theorem dropQueued_proxy (s : State) : (dropQueued s).proxy = s.proxy := by unfold dropQueued; rfl
@[simp] theorem dropQueued_elapsed (s : State) : (dropQueued s).elapsed = s.elapsed := by unfold dropQueued; rfl
@[simp] theorem dropQueued_hostInitiated (s : State) : (dropQueued s).hostInitiated = s.hostInitiated := by unfold dropQueued; rfl
@[simp] theorem dropQueued_reclaimState (s : State) : (dropQueued s).reclaimState = s.reclaimState := by unfold dropQueued; rfl
@[simp] theorem dropQueued_reclaimTime (s : State) : (dropQueued s).reclaimTime = s.reclaimTime := by unfold dropQueued; rfl
@[simp] theorem dropQueued_station (s : State) : (dropQueued s).station = s.station := by unfold dropQueued; rfl
@[simp] theorem dropQueued_matchCounts (s : State) : (dropQueued s).matchCounts = s.matchCounts := by unfold dropQueued; rfl
@[simp] theorem dropQueued_entries (s : State) : (dropQueued s).entries = s.entries := by unfold dropQueued; rfl
@[simp] theorem dropQueued_groups (s : State) : (dropQueued s).groups = s.groups := by unfold dropQueued; rfl
@[simp] theorem dropQueued_rules (s : State) : (dropQueued s).rules = s.rules := by unfold dropQueued; rfl
@[simp] theorem dropQueued_pool (s : State) : (dropQueued s).pool = s.pool := by unfold dropQueued; rfl
@[simp] theorem dropQueued_patchLists (s : State) : (dropQueued s).patchLists = s.patchLists := by unfold dropQueued; rfl
@[simp] theorem dropQueued_queue (s : State) : (dropQueued s).queue = s.queue.filter fun e => e.inFlight := by unfold dropQueued; rfl
@[simp] theorem dropQueued_linkState (s : State) : (dropQueued s).linkState = s.linkState := by unfold dropQueued; rfl
@[simp] theorem dropQueued_owner (s : State) : (dropQueued s).owner = s.owner := by unfold dropQueued; rfl
@[simp] theorem dropQueued_duties (s : State) : (dropQueued s).duties = s.duties := by unfold dropQueued; rfl
@[simp] theorem dropQueued_net (s : State) : (dropQueued s).net = s.net := by unfold dropQueued; rfl
@[simp] theorem dropQueued_signature (s : State) : (dropQueued s).signature = s.signature := by unfold dropQueued; rfl
@[simp] theorem dropQueued_curve (s : State) : (dropQueued s).curve = s.curve := by unfold dropQueued; rfl
@[simp] theorem dropQueued_windowCount (s : State) : (dropQueued s).windowCount = s.windowCount := by unfold dropQueued; rfl
@[simp] theorem dropQueued_budget (s : State) : (dropQueued s).budget = s.budget := by unfold dropQueued; rfl
@[simp] theorem dropQueued_spent (s : State) : (dropQueued s).spent = s.spent := by unfold dropQueued; rfl
@[simp] theorem dropQueued_stormVote (s : State) : (dropQueued s).stormVote = s.stormVote := by unfold dropQueued; rfl
@[simp] theorem dropQueued_windowTimer (s : State) : (dropQueued s).windowTimer = s.windowTimer := by unfold dropQueued; rfl
@[simp] theorem dropQueued_lanes (s : State) : (dropQueued s).lanes = s.lanes := by unfold dropQueued; rfl
@[simp] theorem dropQueued_laneSettings (s : State) : (dropQueued s).laneSettings = s.laneSettings := by unfold dropQueued; rfl
@[simp] theorem dropQueued_reasons (s : State) : (dropQueued s).reasons = s.reasons := by unfold dropQueued; rfl
@[simp] theorem dropQueued_firstReason (s : State) : (dropQueued s).firstReason = s.firstReason := by unfold dropQueued; rfl
@[simp] theorem dropQueued_resignals (s : State) : (dropQueued s).resignals = s.resignals := by unfold dropQueued; rfl
@[simp] theorem dropQueued_decayTimer (s : State) : (dropQueued s).decayTimer = s.decayTimer := by unfold dropQueued; rfl
@[simp] theorem dropQueued_settleTimer (s : State) : (dropQueued s).settleTimer = s.settleTimer := by unfold dropQueued; rfl
@[simp] theorem dropQueued_patienceTimer (s : State) : (dropQueued s).patienceTimer = s.patienceTimer := by unfold dropQueued; rfl
@[simp] theorem dropQueued_gapTimer (s : State) : (dropQueued s).gapTimer = s.gapTimer := by unfold dropQueued; rfl
@[simp] theorem dropQueued_wake (s : State) : (dropQueued s).wake = s.wake := by unfold dropQueued; rfl
@[simp] theorem dropQueued_held (s : State) : (dropQueued s).held = s.held := by unfold dropQueued; rfl
@[simp] theorem dropQueued_report (s : State) : (dropQueued s).report = s.report := by unfold dropQueued; rfl
@[simp] theorem dropQueued_reply (s : State) : (dropQueued s).reply = s.reply := by unfold dropQueued; rfl
@[simp] theorem dropQueued_readyPending (s : State) : (dropQueued s).readyPending = s.readyPending := by unfold dropQueued; rfl
@[simp] theorem dropQueued_handbackDonePending (s : State) : (dropQueued s).handbackDonePending = s.handbackDonePending := by unfold dropQueued; rfl
@[simp] theorem dropQueued_portOut (s : State) : (dropQueued s).portOut = s.portOut := by unfold dropQueued; rfl
@[simp] theorem dropQueued_linkOut (s : State) : (dropQueued s).linkOut = s.linkOut := by unfold dropQueued; rfl
@[simp] theorem dropQueued_freeCount (s : State) : (dropQueued s).freeCount = s.freeCount := by unfold dropQueued; rfl
@[simp] theorem dropQueued_pending (s : State) : (dropQueued s).pending = s.pending := by unfold dropQueued; rfl

/-! ### sendOwner -/

@[simp] theorem sendOwner_proxy (o : Owner) (s : State) : (sendOwner o s).proxy = s.proxy := rfl
@[simp] theorem sendOwner_elapsed (o : Owner) (s : State) : (sendOwner o s).elapsed = s.elapsed := rfl
@[simp] theorem sendOwner_hostInitiated (o : Owner) (s : State) : (sendOwner o s).hostInitiated = s.hostInitiated := rfl
@[simp] theorem sendOwner_reclaimState (o : Owner) (s : State) : (sendOwner o s).reclaimState = s.reclaimState := rfl
@[simp] theorem sendOwner_reclaimTime (o : Owner) (s : State) : (sendOwner o s).reclaimTime = s.reclaimTime := rfl
@[simp] theorem sendOwner_station (o : Owner) (s : State) : (sendOwner o s).station = s.station := rfl
@[simp] theorem sendOwner_stats (o : Owner) (s : State) : (sendOwner o s).stats = s.stats := rfl
@[simp] theorem sendOwner_matchCounts (o : Owner) (s : State) : (sendOwner o s).matchCounts = s.matchCounts := rfl
@[simp] theorem sendOwner_entries (o : Owner) (s : State) : (sendOwner o s).entries = s.entries := rfl
@[simp] theorem sendOwner_groups (o : Owner) (s : State) : (sendOwner o s).groups = s.groups := rfl
@[simp] theorem sendOwner_rules (o : Owner) (s : State) : (sendOwner o s).rules = s.rules := rfl
@[simp] theorem sendOwner_pool (o : Owner) (s : State) : (sendOwner o s).pool = s.pool := rfl
@[simp] theorem sendOwner_patchLists (o : Owner) (s : State) : (sendOwner o s).patchLists = s.patchLists := rfl
@[simp] theorem sendOwner_queue (o : Owner) (s : State) : (sendOwner o s).queue = s.queue := rfl
@[simp] theorem sendOwner_linkState (o : Owner) (s : State) : (sendOwner o s).linkState = s.linkState := rfl
@[simp] theorem sendOwner_owner (o : Owner) (s : State) : (sendOwner o s).owner = o := rfl
@[simp] theorem sendOwner_duties (o : Owner) (s : State) : (sendOwner o s).duties = s.duties := rfl
@[simp] theorem sendOwner_net (o : Owner) (s : State) : (sendOwner o s).net = s.net := rfl
@[simp] theorem sendOwner_signature (o : Owner) (s : State) : (sendOwner o s).signature = s.signature := rfl
@[simp] theorem sendOwner_curve (o : Owner) (s : State) : (sendOwner o s).curve = s.curve := rfl
@[simp] theorem sendOwner_windowCount (o : Owner) (s : State) : (sendOwner o s).windowCount = s.windowCount := rfl
@[simp] theorem sendOwner_budget (o : Owner) (s : State) : (sendOwner o s).budget = s.budget := rfl
@[simp] theorem sendOwner_spent (o : Owner) (s : State) : (sendOwner o s).spent = s.spent := rfl
@[simp] theorem sendOwner_stormVote (o : Owner) (s : State) : (sendOwner o s).stormVote = s.stormVote := rfl
@[simp] theorem sendOwner_windowTimer (o : Owner) (s : State) : (sendOwner o s).windowTimer = s.windowTimer := rfl
@[simp] theorem sendOwner_lanes (o : Owner) (s : State) : (sendOwner o s).lanes = s.lanes := rfl
@[simp] theorem sendOwner_laneSettings (o : Owner) (s : State) : (sendOwner o s).laneSettings = s.laneSettings := rfl
@[simp] theorem sendOwner_reasons (o : Owner) (s : State) : (sendOwner o s).reasons = s.reasons := rfl
@[simp] theorem sendOwner_firstReason (o : Owner) (s : State) : (sendOwner o s).firstReason = s.firstReason := rfl
@[simp] theorem sendOwner_resignals (o : Owner) (s : State) : (sendOwner o s).resignals = s.resignals := rfl
@[simp] theorem sendOwner_decayTimer (o : Owner) (s : State) : (sendOwner o s).decayTimer = s.decayTimer := rfl
@[simp] theorem sendOwner_settleTimer (o : Owner) (s : State) : (sendOwner o s).settleTimer = s.settleTimer := rfl
@[simp] theorem sendOwner_patienceTimer (o : Owner) (s : State) : (sendOwner o s).patienceTimer = s.patienceTimer := rfl
@[simp] theorem sendOwner_gapTimer (o : Owner) (s : State) : (sendOwner o s).gapTimer = s.gapTimer := rfl
@[simp] theorem sendOwner_wake (o : Owner) (s : State) : (sendOwner o s).wake = s.wake := rfl
@[simp] theorem sendOwner_held (o : Owner) (s : State) : (sendOwner o s).held = s.held := rfl
@[simp] theorem sendOwner_report (o : Owner) (s : State) : (sendOwner o s).report = s.report := rfl
@[simp] theorem sendOwner_reply (o : Owner) (s : State) : (sendOwner o s).reply = s.reply := rfl
@[simp] theorem sendOwner_readyPending (o : Owner) (s : State) : (sendOwner o s).readyPending = s.readyPending := rfl
@[simp] theorem sendOwner_handbackDonePending (o : Owner) (s : State) : (sendOwner o s).handbackDonePending = s.handbackDonePending := rfl
@[simp] theorem sendOwner_portOut (o : Owner) (s : State) : (sendOwner o s).portOut = s.portOut ++ [.owner o] := rfl
@[simp] theorem sendOwner_linkOut (o : Owner) (s : State) : (sendOwner o s).linkOut = s.linkOut := rfl
@[simp] theorem sendOwner_freeCount (o : Owner) (s : State) : (sendOwner o s).freeCount = s.freeCount := rfl
@[simp] theorem sendOwner_pending (o : Owner) (s : State) : (sendOwner o s).pending = s.pending := rfl

/-! ### decayLanes -/

@[simp] theorem decayLanes_proxy (s : State) : (decayLanes s).proxy = s.proxy := by unfold decayLanes; rfl
@[simp] theorem decayLanes_elapsed (s : State) : (decayLanes s).elapsed = s.elapsed := by unfold decayLanes; rfl
@[simp] theorem decayLanes_hostInitiated (s : State) : (decayLanes s).hostInitiated = s.hostInitiated := by unfold decayLanes; rfl
@[simp] theorem decayLanes_reclaimState (s : State) : (decayLanes s).reclaimState = s.reclaimState := by unfold decayLanes; rfl
@[simp] theorem decayLanes_reclaimTime (s : State) : (decayLanes s).reclaimTime = s.reclaimTime := by unfold decayLanes; rfl
@[simp] theorem decayLanes_station (s : State) : (decayLanes s).station = s.station := by unfold decayLanes; rfl
@[simp] theorem decayLanes_stats (s : State) : (decayLanes s).stats = s.stats := by unfold decayLanes; rfl
@[simp] theorem decayLanes_matchCounts (s : State) : (decayLanes s).matchCounts = s.matchCounts := by unfold decayLanes; rfl
@[simp] theorem decayLanes_entries (s : State) : (decayLanes s).entries = s.entries := by unfold decayLanes; rfl
@[simp] theorem decayLanes_groups (s : State) : (decayLanes s).groups = s.groups := by unfold decayLanes; rfl
@[simp] theorem decayLanes_rules (s : State) : (decayLanes s).rules = s.rules := by unfold decayLanes; rfl
@[simp] theorem decayLanes_pool (s : State) : (decayLanes s).pool = s.pool := by unfold decayLanes; rfl
@[simp] theorem decayLanes_patchLists (s : State) : (decayLanes s).patchLists = s.patchLists := by unfold decayLanes; rfl
@[simp] theorem decayLanes_queue (s : State) : (decayLanes s).queue = s.queue := by unfold decayLanes; rfl
@[simp] theorem decayLanes_linkState (s : State) : (decayLanes s).linkState = s.linkState := by unfold decayLanes; rfl
@[simp] theorem decayLanes_owner (s : State) : (decayLanes s).owner = s.owner := by unfold decayLanes; rfl
@[simp] theorem decayLanes_duties (s : State) : (decayLanes s).duties = s.duties := by unfold decayLanes; rfl
@[simp] theorem decayLanes_net (s : State) : (decayLanes s).net = s.net := by unfold decayLanes; rfl
@[simp] theorem decayLanes_signature (s : State) : (decayLanes s).signature = s.signature := by unfold decayLanes; rfl
@[simp] theorem decayLanes_curve (s : State) : (decayLanes s).curve = s.curve := by unfold decayLanes; rfl
@[simp] theorem decayLanes_windowCount (s : State) : (decayLanes s).windowCount = s.windowCount := by unfold decayLanes; rfl
@[simp] theorem decayLanes_budget (s : State) : (decayLanes s).budget = s.budget := by unfold decayLanes; rfl
@[simp] theorem decayLanes_spent (s : State) : (decayLanes s).spent = s.spent := by unfold decayLanes; rfl
@[simp] theorem decayLanes_stormVote (s : State) : (decayLanes s).stormVote = s.stormVote := by unfold decayLanes; rfl
@[simp] theorem decayLanes_windowTimer (s : State) : (decayLanes s).windowTimer = s.windowTimer := by unfold decayLanes; rfl
@[simp] theorem decayLanes_laneSettings (s : State) : (decayLanes s).laneSettings = s.laneSettings := by unfold decayLanes; rfl
@[simp] theorem decayLanes_reasons (s : State) : (decayLanes s).reasons = s.reasons := by unfold decayLanes; rfl
@[simp] theorem decayLanes_firstReason (s : State) : (decayLanes s).firstReason = s.firstReason := by unfold decayLanes; rfl
@[simp] theorem decayLanes_resignals (s : State) : (decayLanes s).resignals = s.resignals := by unfold decayLanes; rfl
@[simp] theorem decayLanes_decayTimer (s : State) : (decayLanes s).decayTimer = s.decayTimer := by unfold decayLanes; rfl
@[simp] theorem decayLanes_settleTimer (s : State) : (decayLanes s).settleTimer = s.settleTimer := by unfold decayLanes; rfl
@[simp] theorem decayLanes_patienceTimer (s : State) : (decayLanes s).patienceTimer = s.patienceTimer := by unfold decayLanes; rfl
@[simp] theorem decayLanes_gapTimer (s : State) : (decayLanes s).gapTimer = s.gapTimer := by unfold decayLanes; rfl
@[simp] theorem decayLanes_wake (s : State) : (decayLanes s).wake = s.wake := by unfold decayLanes; rfl
@[simp] theorem decayLanes_held (s : State) : (decayLanes s).held = s.held := by unfold decayLanes; rfl
@[simp] theorem decayLanes_report (s : State) : (decayLanes s).report = s.report := by unfold decayLanes; rfl
@[simp] theorem decayLanes_reply (s : State) : (decayLanes s).reply = s.reply := by unfold decayLanes; rfl
@[simp] theorem decayLanes_readyPending (s : State) : (decayLanes s).readyPending = s.readyPending := by unfold decayLanes; rfl
@[simp] theorem decayLanes_handbackDonePending (s : State) : (decayLanes s).handbackDonePending = s.handbackDonePending := by unfold decayLanes; rfl
@[simp] theorem decayLanes_portOut (s : State) : (decayLanes s).portOut = s.portOut := by unfold decayLanes; rfl
@[simp] theorem decayLanes_linkOut (s : State) : (decayLanes s).linkOut = s.linkOut := by unfold decayLanes; rfl
@[simp] theorem decayLanes_freeCount (s : State) : (decayLanes s).freeCount = s.freeCount := by unfold decayLanes; rfl
@[simp] theorem decayLanes_pending (s : State) : (decayLanes s).pending = s.pending := by unfold decayLanes; rfl

/-! ### stopTimers -/

@[simp] theorem stopTimers_proxy (s : State) : (stopTimers s).proxy = s.proxy := by unfold stopTimers; rfl
@[simp] theorem stopTimers_elapsed (s : State) : (stopTimers s).elapsed = s.elapsed := by unfold stopTimers; rfl
@[simp] theorem stopTimers_hostInitiated (s : State) : (stopTimers s).hostInitiated = s.hostInitiated := by unfold stopTimers; rfl
@[simp] theorem stopTimers_reclaimState (s : State) : (stopTimers s).reclaimState = s.reclaimState := by unfold stopTimers; rfl
@[simp] theorem stopTimers_reclaimTime (s : State) : (stopTimers s).reclaimTime = s.reclaimTime := by unfold stopTimers; rfl
@[simp] theorem stopTimers_station (s : State) : (stopTimers s).station = s.station := by unfold stopTimers; rfl
@[simp] theorem stopTimers_stats (s : State) : (stopTimers s).stats = s.stats := by unfold stopTimers; rfl
@[simp] theorem stopTimers_matchCounts (s : State) : (stopTimers s).matchCounts = s.matchCounts := by unfold stopTimers; rfl
@[simp] theorem stopTimers_groups (s : State) : (stopTimers s).groups = s.groups := by unfold stopTimers; rfl
@[simp] theorem stopTimers_rules (s : State) : (stopTimers s).rules = s.rules := by unfold stopTimers; rfl
@[simp] theorem stopTimers_pool (s : State) : (stopTimers s).pool = s.pool := by unfold stopTimers; rfl
@[simp] theorem stopTimers_patchLists (s : State) : (stopTimers s).patchLists = s.patchLists := by unfold stopTimers; rfl
@[simp] theorem stopTimers_queue (s : State) : (stopTimers s).queue = s.queue := by unfold stopTimers; rfl
@[simp] theorem stopTimers_linkState (s : State) : (stopTimers s).linkState = s.linkState := by unfold stopTimers; rfl
@[simp] theorem stopTimers_owner (s : State) : (stopTimers s).owner = s.owner := by unfold stopTimers; rfl
@[simp] theorem stopTimers_net (s : State) : (stopTimers s).net = s.net := by unfold stopTimers; rfl
@[simp] theorem stopTimers_signature (s : State) : (stopTimers s).signature = s.signature := by unfold stopTimers; rfl
@[simp] theorem stopTimers_curve (s : State) : (stopTimers s).curve = s.curve := by unfold stopTimers; rfl
@[simp] theorem stopTimers_windowCount (s : State) : (stopTimers s).windowCount = s.windowCount := by unfold stopTimers; rfl
@[simp] theorem stopTimers_budget (s : State) : (stopTimers s).budget = s.budget := by unfold stopTimers; rfl
@[simp] theorem stopTimers_spent (s : State) : (stopTimers s).spent = s.spent := by unfold stopTimers; rfl
@[simp] theorem stopTimers_stormVote (s : State) : (stopTimers s).stormVote = s.stormVote := by unfold stopTimers; rfl
@[simp] theorem stopTimers_windowTimer (s : State) : (stopTimers s).windowTimer = none := by unfold stopTimers; rfl
@[simp] theorem stopTimers_lanes (s : State) : (stopTimers s).lanes = s.lanes := by unfold stopTimers; rfl
@[simp] theorem stopTimers_laneSettings (s : State) : (stopTimers s).laneSettings = s.laneSettings := by unfold stopTimers; rfl
@[simp] theorem stopTimers_reasons (s : State) : (stopTimers s).reasons = s.reasons := by unfold stopTimers; rfl
@[simp] theorem stopTimers_firstReason (s : State) : (stopTimers s).firstReason = s.firstReason := by unfold stopTimers; rfl
@[simp] theorem stopTimers_resignals (s : State) : (stopTimers s).resignals = s.resignals := by unfold stopTimers; rfl
@[simp] theorem stopTimers_decayTimer (s : State) : (stopTimers s).decayTimer = none := by unfold stopTimers; rfl
@[simp] theorem stopTimers_settleTimer (s : State) : (stopTimers s).settleTimer = none := by unfold stopTimers; rfl
@[simp] theorem stopTimers_patienceTimer (s : State) : (stopTimers s).patienceTimer = none := by unfold stopTimers; rfl
@[simp] theorem stopTimers_gapTimer (s : State) : (stopTimers s).gapTimer = none := by unfold stopTimers; rfl
@[simp] theorem stopTimers_wake (s : State) : (stopTimers s).wake = s.wake := by unfold stopTimers; rfl
@[simp] theorem stopTimers_held (s : State) : (stopTimers s).held = s.held := by unfold stopTimers; rfl
@[simp] theorem stopTimers_report (s : State) : (stopTimers s).report = s.report := by unfold stopTimers; rfl
@[simp] theorem stopTimers_reply (s : State) : (stopTimers s).reply = s.reply := by unfold stopTimers; rfl
@[simp] theorem stopTimers_readyPending (s : State) : (stopTimers s).readyPending = s.readyPending := by unfold stopTimers; rfl
@[simp] theorem stopTimers_handbackDonePending (s : State) : (stopTimers s).handbackDonePending = s.handbackDonePending := by unfold stopTimers; rfl
@[simp] theorem stopTimers_portOut (s : State) : (stopTimers s).portOut = s.portOut := by unfold stopTimers; rfl
@[simp] theorem stopTimers_linkOut (s : State) : (stopTimers s).linkOut = s.linkOut := by unfold stopTimers; rfl
@[simp] theorem stopTimers_freeCount (s : State) : (stopTimers s).freeCount = s.freeCount := by unfold stopTimers; rfl
@[simp] theorem stopTimers_pending (s : State) : (stopTimers s).pending = s.pending := by unfold stopTimers; rfl

/-! ### tickTimers -/

@[simp] theorem tickTimers_proxy (s : State) : (tickTimers s).proxy = s.proxy := by unfold tickTimers; rfl
@[simp] theorem tickTimers_elapsed (s : State) : (tickTimers s).elapsed = s.elapsed := by unfold tickTimers; rfl
@[simp] theorem tickTimers_hostInitiated (s : State) : (tickTimers s).hostInitiated = s.hostInitiated := by unfold tickTimers; rfl
@[simp] theorem tickTimers_reclaimState (s : State) : (tickTimers s).reclaimState = s.reclaimState := by unfold tickTimers; rfl
@[simp] theorem tickTimers_reclaimTime (s : State) : (tickTimers s).reclaimTime = s.reclaimTime := by unfold tickTimers; rfl
@[simp] theorem tickTimers_station (s : State) : (tickTimers s).station = s.station := by unfold tickTimers; rfl
@[simp] theorem tickTimers_stats (s : State) : (tickTimers s).stats = s.stats := by unfold tickTimers; rfl
@[simp] theorem tickTimers_matchCounts (s : State) : (tickTimers s).matchCounts = s.matchCounts := by unfold tickTimers; rfl
@[simp] theorem tickTimers_groups (s : State) : (tickTimers s).groups = s.groups := by unfold tickTimers; rfl
@[simp] theorem tickTimers_rules (s : State) : (tickTimers s).rules = s.rules := by unfold tickTimers; rfl
@[simp] theorem tickTimers_pool (s : State) : (tickTimers s).pool = s.pool := by unfold tickTimers; rfl
@[simp] theorem tickTimers_patchLists (s : State) : (tickTimers s).patchLists = s.patchLists := by unfold tickTimers; rfl
@[simp] theorem tickTimers_queue (s : State) : (tickTimers s).queue = s.queue := by unfold tickTimers; rfl
@[simp] theorem tickTimers_linkState (s : State) : (tickTimers s).linkState = s.linkState := by unfold tickTimers; rfl
@[simp] theorem tickTimers_owner (s : State) : (tickTimers s).owner = s.owner := by unfold tickTimers; rfl
@[simp] theorem tickTimers_net (s : State) : (tickTimers s).net = s.net := by unfold tickTimers; rfl
@[simp] theorem tickTimers_signature (s : State) : (tickTimers s).signature = s.signature := by unfold tickTimers; rfl
@[simp] theorem tickTimers_curve (s : State) : (tickTimers s).curve = s.curve := by unfold tickTimers; rfl
@[simp] theorem tickTimers_windowCount (s : State) : (tickTimers s).windowCount = s.windowCount := by unfold tickTimers; rfl
@[simp] theorem tickTimers_budget (s : State) : (tickTimers s).budget = s.budget := by unfold tickTimers; rfl
@[simp] theorem tickTimers_spent (s : State) : (tickTimers s).spent = s.spent := by unfold tickTimers; rfl
@[simp] theorem tickTimers_stormVote (s : State) : (tickTimers s).stormVote = s.stormVote := by unfold tickTimers; rfl
@[simp] theorem tickTimers_windowTimer (s : State) : (tickTimers s).windowTimer = Timer.tick s.windowTimer := by unfold tickTimers; rfl
@[simp] theorem tickTimers_lanes (s : State) : (tickTimers s).lanes = s.lanes := by unfold tickTimers; rfl
@[simp] theorem tickTimers_laneSettings (s : State) : (tickTimers s).laneSettings = s.laneSettings := by unfold tickTimers; rfl
@[simp] theorem tickTimers_reasons (s : State) : (tickTimers s).reasons = s.reasons := by unfold tickTimers; rfl
@[simp] theorem tickTimers_firstReason (s : State) : (tickTimers s).firstReason = s.firstReason := by unfold tickTimers; rfl
@[simp] theorem tickTimers_resignals (s : State) : (tickTimers s).resignals = s.resignals := by unfold tickTimers; rfl
@[simp] theorem tickTimers_decayTimer (s : State) : (tickTimers s).decayTimer = Timer.tick s.decayTimer := by unfold tickTimers; rfl
@[simp] theorem tickTimers_settleTimer (s : State) : (tickTimers s).settleTimer = Timer.tick s.settleTimer := by unfold tickTimers; rfl
@[simp] theorem tickTimers_patienceTimer (s : State) : (tickTimers s).patienceTimer = Timer.tick s.patienceTimer := by unfold tickTimers; rfl
@[simp] theorem tickTimers_gapTimer (s : State) : (tickTimers s).gapTimer = Timer.tick s.gapTimer := by unfold tickTimers; rfl
@[simp] theorem tickTimers_wake (s : State) : (tickTimers s).wake = s.wake := by unfold tickTimers; rfl
@[simp] theorem tickTimers_held (s : State) : (tickTimers s).held = s.held := by unfold tickTimers; rfl
@[simp] theorem tickTimers_report (s : State) : (tickTimers s).report = s.report := by unfold tickTimers; rfl
@[simp] theorem tickTimers_reply (s : State) : (tickTimers s).reply = s.reply := by unfold tickTimers; rfl
@[simp] theorem tickTimers_readyPending (s : State) : (tickTimers s).readyPending = s.readyPending := by unfold tickTimers; rfl
@[simp] theorem tickTimers_handbackDonePending (s : State) : (tickTimers s).handbackDonePending = s.handbackDonePending := by unfold tickTimers; rfl
@[simp] theorem tickTimers_portOut (s : State) : (tickTimers s).portOut = s.portOut := by unfold tickTimers; rfl
@[simp] theorem tickTimers_linkOut (s : State) : (tickTimers s).linkOut = s.linkOut := by unfold tickTimers; rfl
@[simp] theorem tickTimers_freeCount (s : State) : (tickTimers s).freeCount = s.freeCount := by unfold tickTimers; rfl
@[simp] theorem tickTimers_pending (s : State) : (tickTimers s).pending = s.pending := by unfold tickTimers; rfl

end Sys2Proof.Machine
end

