-- ==== Sys2Proof/Laws/Wake.lean ====
section
/-! SUPPORT. What the Wake Unit's operations can do: the fields they touch, and the cases of an addition. -/

namespace Sys2Proof.Machine

/-- `t` differs from `s` at most in the lanes, the reason set, the first reason, the proxy state, WAKE and patience. -/
def OnlyWake (s t : State) : Prop :=
  t = { s with
    lanes := t.lanes, reasons := t.reasons, firstReason := t.firstReason, proxy := t.proxy, wake := t.wake,
    patienceTimer := t.patienceTimer }

theorem OnlyWake.eq {s t : State} (h : OnlyWake s t) : t = { s with
    lanes := t.lanes, reasons := t.reasons, firstReason := t.firstReason, proxy := t.proxy, wake := t.wake,
    patienceTimer := t.patienceTimer } := h

theorem OnlyWake.refl (s : State) : OnlyWake s s := rfl

theorem OnlyWake.trans {s t u : State} (h : OnlyWake s t) (k : OnlyWake t u) : OnlyWake s u := by
  cases s; cases t; cases u
  simp_all [OnlyWake]

theorem joinReason_onlyWake (r : Fin 9) (s : State) : OnlyWake s (joinReason r s) := by
  unfold joinReason; split <;> rfl

theorem testLane_onlyWake (s : State) (j : Fin 8) : OnlyWake s (testLane s j) := by
  unfold testLane; split
  · exact joinReason_onlyWake _ s
  · rfl

theorem testTotal_onlyWake (s : State) : OnlyWake s (testTotal s) := by
  unfold testTotal; split
  · exact joinReason_onlyWake _ s
  · rfl

theorem wakeDecision_onlyWake (b s : State) : OnlyWake s (wakeDecision b s) := by
  unfold wakeDecision; split <;> rfl

theorem evaluateLane_onlyWake (j : Fin 8) (s : State) : OnlyWake s (evaluateLane j s) :=
  ((testLane_onlyWake s j).trans (testTotal_onlyWake _)).trans (wakeDecision_onlyWake _ _)

theorem testLanes_onlyWake (l : List (Fin 8)) (s : State) : OnlyWake s (l.foldl testLane s) := by
  induction l generalizing s with
  | nil => rfl
  | cons j l ih => exact (testLane_onlyWake s j).trans (ih _)

theorem evaluateAll_onlyWake (s : State) : OnlyWake s (evaluateAll s) :=
  ((testLanes_onlyWake _ s).trans (testTotal_onlyWake _)).trans (wakeDecision_onlyWake _ _)

/-- An addition touches nothing outside the Wake Unit and the proxy state (R164, R165, R171). -/
theorem addWeight_onlyWake (j : Fin 8) (w : Nat) (s : State) : OnlyWake s (addWeight j w s) := by
  unfold addWeight; split
  · rfl
  · dsimp only
    split
    · rfl
    · exact OnlyWake.trans (t := { s with lanes := s.lanes.set j (satAdd16 s.lanes[j] w) }) rfl (evaluateLane_onlyWake j _)

/-- The cases of an addition (R164, R165): discarded; applied alone while the settle hold runs; applied and evaluated. -/
theorem addWeight_cases (j : Fin 8) (w : Nat) (s : State) :
    ((w = 0 ∨ s.active = false) ∧ addWeight j w s = s) ∨
    (w ≠ 0 ∧ s.active = true ∧ s.settleTimer.isSome = true ∧
      addWeight j w s = { s with lanes := s.lanes.set j (satAdd16 s.lanes[j] w) }) ∨
    (w ≠ 0 ∧ s.active = true ∧ s.settleTimer = none ∧
      addWeight j w s = evaluateLane j { s with lanes := s.lanes.set j (satAdd16 s.lanes[j] w) }) := by
  by_cases hw : w = 0 <;> cases ha : s.active <;> cases hs : s.settleTimer <;> simp [addWeight, hw, ha, hs]

/-- The proxy state after an evaluation: as it was, or WAKING from PROXY with WAKE asserted and patience started (R171). -/
theorem wakeDecision_cases (b s : State) :
    wakeDecision b s = s ∨
    (b.reasons = 0 ∧ s.reasons ≠ 0 ∧ s.proxy = .proxy ∧
      wakeDecision b s =
        { s with proxy := .waking, wake := true, patienceTimer := some (s.station.wakePatience * 1000) }) := by
  unfold wakeDecision; split
  · next h => exact .inr ⟨h.1, h.2.1, h.2.2, rfl⟩
  · exact .inl rfl

theorem joinReason_proxy (r : Fin 9) (s : State) : (joinReason r s).proxy = s.proxy := by
  unfold joinReason; split <;> rfl

theorem testLane_proxy (s : State) (j : Fin 8) : (testLane s j).proxy = s.proxy := by
  unfold testLane; split
  · exact joinReason_proxy _ s
  · rfl

theorem testTotal_proxy (s : State) : (testTotal s).proxy = s.proxy := by
  unfold testTotal; split
  · exact joinReason_proxy _ s
  · rfl

theorem testLanes_proxy (l : List (Fin 8)) (s : State) : (l.foldl testLane s).proxy = s.proxy := by
  induction l generalizing s with
  | nil => rfl
  | cons j l ih => rw [List.foldl_cons, ih, testLane_proxy]

/-- A wake decision leaves the part active, or as it was. -/
@[simp] theorem wakeDecision_active (b s : State) : (wakeDecision b s).active = s.active := by
  rcases wakeDecision_cases b s with h | ⟨-, -, hp, h⟩ <;> rw [h]
  simp [State.active, hp]

@[simp] theorem evaluateLane_active (j : Fin 8) (s : State) : (evaluateLane j s).active = s.active := by
  rw [evaluateLane, wakeDecision_active, State.active, testTotal_proxy, testLane_proxy, State.active]

@[simp] theorem evaluateAll_active (s : State) : (evaluateAll s).active = s.active := by
  rw [evaluateAll, wakeDecision_active, State.active, testTotal_proxy, testLanes_proxy, State.active]

/-- An addition leaves the part active, or as it was: PROXY may become WAKING (R9). -/
@[simp] theorem addWeight_active (j : Fin 8) (w : Nat) (s : State) : (addWeight j w s).active = s.active := by
  rcases addWeight_cases j w s with ⟨-, h⟩ | ⟨-, -, -, h⟩ | ⟨-, -, -, h⟩ <;> rw [h]
  · rfl
  · rw [evaluateLane_active]; rfl

/-! ### The fields an addition and the settle hold's evaluation leave alone -/

@[simp] theorem addWeight_elapsed (j : Fin 8) (w : Nat) (s : State) : (addWeight j w s).elapsed = s.elapsed :=
  (congrArg State.elapsed (addWeight_onlyWake j w s).eq :)
@[simp] theorem addWeight_hostInitiated (j : Fin 8) (w : Nat) (s : State) : (addWeight j w s).hostInitiated = s.hostInitiated :=
  (congrArg State.hostInitiated (addWeight_onlyWake j w s).eq :)
@[simp] theorem addWeight_reclaimState (j : Fin 8) (w : Nat) (s : State) : (addWeight j w s).reclaimState = s.reclaimState :=
  (congrArg State.reclaimState (addWeight_onlyWake j w s).eq :)
@[simp] theorem addWeight_reclaimTime (j : Fin 8) (w : Nat) (s : State) : (addWeight j w s).reclaimTime = s.reclaimTime :=
  (congrArg State.reclaimTime (addWeight_onlyWake j w s).eq :)
@[simp] theorem addWeight_station (j : Fin 8) (w : Nat) (s : State) : (addWeight j w s).station = s.station :=
  (congrArg State.station (addWeight_onlyWake j w s).eq :)
@[simp] theorem addWeight_stats (j : Fin 8) (w : Nat) (s : State) : (addWeight j w s).stats = s.stats :=
  (congrArg State.stats (addWeight_onlyWake j w s).eq :)
@[simp] theorem addWeight_matchCounts (j : Fin 8) (w : Nat) (s : State) : (addWeight j w s).matchCounts = s.matchCounts :=
  (congrArg State.matchCounts (addWeight_onlyWake j w s).eq :)
@[simp] theorem addWeight_entries (j : Fin 8) (w : Nat) (s : State) : (addWeight j w s).entries = s.entries :=
  (congrArg State.entries (addWeight_onlyWake j w s).eq :)
@[simp] theorem addWeight_groups (j : Fin 8) (w : Nat) (s : State) : (addWeight j w s).groups = s.groups :=
  (congrArg State.groups (addWeight_onlyWake j w s).eq :)
@[simp] theorem addWeight_rules (j : Fin 8) (w : Nat) (s : State) : (addWeight j w s).rules = s.rules :=
  (congrArg State.rules (addWeight_onlyWake j w s).eq :)
@[simp] theorem addWeight_pool (j : Fin 8) (w : Nat) (s : State) : (addWeight j w s).pool = s.pool :=
  (congrArg State.pool (addWeight_onlyWake j w s).eq :)
@[simp] theorem addWeight_patchLists (j : Fin 8) (w : Nat) (s : State) : (addWeight j w s).patchLists = s.patchLists :=
  (congrArg State.patchLists (addWeight_onlyWake j w s).eq :)
@[simp] theorem addWeight_queue (j : Fin 8) (w : Nat) (s : State) : (addWeight j w s).queue = s.queue :=
  (congrArg State.queue (addWeight_onlyWake j w s).eq :)
@[simp] theorem addWeight_linkState (j : Fin 8) (w : Nat) (s : State) : (addWeight j w s).linkState = s.linkState :=
  (congrArg State.linkState (addWeight_onlyWake j w s).eq :)
@[simp] theorem addWeight_owner (j : Fin 8) (w : Nat) (s : State) : (addWeight j w s).owner = s.owner :=
  (congrArg State.owner (addWeight_onlyWake j w s).eq :)
@[simp] theorem addWeight_duties (j : Fin 8) (w : Nat) (s : State) : (addWeight j w s).duties = s.duties :=
  (congrArg State.duties (addWeight_onlyWake j w s).eq :)
@[simp] theorem addWeight_net (j : Fin 8) (w : Nat) (s : State) : (addWeight j w s).net = s.net :=
  (congrArg State.net (addWeight_onlyWake j w s).eq :)
@[simp] theorem addWeight_signature (j : Fin 8) (w : Nat) (s : State) : (addWeight j w s).signature = s.signature :=
  (congrArg State.signature (addWeight_onlyWake j w s).eq :)
@[simp] theorem addWeight_curve (j : Fin 8) (w : Nat) (s : State) : (addWeight j w s).curve = s.curve :=
  (congrArg State.curve (addWeight_onlyWake j w s).eq :)
@[simp] theorem addWeight_windowCount (j : Fin 8) (w : Nat) (s : State) : (addWeight j w s).windowCount = s.windowCount :=
  (congrArg State.windowCount (addWeight_onlyWake j w s).eq :)
@[simp] theorem addWeight_budget (j : Fin 8) (w : Nat) (s : State) : (addWeight j w s).budget = s.budget :=
  (congrArg State.budget (addWeight_onlyWake j w s).eq :)
@[simp] theorem addWeight_spent (j : Fin 8) (w : Nat) (s : State) : (addWeight j w s).spent = s.spent :=
  (congrArg State.spent (addWeight_onlyWake j w s).eq :)
@[simp] theorem addWeight_stormVote (j : Fin 8) (w : Nat) (s : State) : (addWeight j w s).stormVote = s.stormVote :=
  (congrArg State.stormVote (addWeight_onlyWake j w s).eq :)
@[simp] theorem addWeight_windowTimer (j : Fin 8) (w : Nat) (s : State) : (addWeight j w s).windowTimer = s.windowTimer :=
  (congrArg State.windowTimer (addWeight_onlyWake j w s).eq :)
@[simp] theorem addWeight_laneSettings (j : Fin 8) (w : Nat) (s : State) : (addWeight j w s).laneSettings = s.laneSettings :=
  (congrArg State.laneSettings (addWeight_onlyWake j w s).eq :)
@[simp] theorem addWeight_resignals (j : Fin 8) (w : Nat) (s : State) : (addWeight j w s).resignals = s.resignals :=
  (congrArg State.resignals (addWeight_onlyWake j w s).eq :)
@[simp] theorem addWeight_decayTimer (j : Fin 8) (w : Nat) (s : State) : (addWeight j w s).decayTimer = s.decayTimer :=
  (congrArg State.decayTimer (addWeight_onlyWake j w s).eq :)
@[simp] theorem addWeight_settleTimer (j : Fin 8) (w : Nat) (s : State) : (addWeight j w s).settleTimer = s.settleTimer :=
  (congrArg State.settleTimer (addWeight_onlyWake j w s).eq :)
@[simp] theorem addWeight_gapTimer (j : Fin 8) (w : Nat) (s : State) : (addWeight j w s).gapTimer = s.gapTimer :=
  (congrArg State.gapTimer (addWeight_onlyWake j w s).eq :)
@[simp] theorem addWeight_held (j : Fin 8) (w : Nat) (s : State) : (addWeight j w s).held = s.held :=
  (congrArg State.held (addWeight_onlyWake j w s).eq :)
@[simp] theorem addWeight_report (j : Fin 8) (w : Nat) (s : State) : (addWeight j w s).report = s.report :=
  (congrArg State.report (addWeight_onlyWake j w s).eq :)
@[simp] theorem addWeight_reply (j : Fin 8) (w : Nat) (s : State) : (addWeight j w s).reply = s.reply :=
  (congrArg State.reply (addWeight_onlyWake j w s).eq :)
@[simp] theorem addWeight_readyPending (j : Fin 8) (w : Nat) (s : State) : (addWeight j w s).readyPending = s.readyPending :=
  (congrArg State.readyPending (addWeight_onlyWake j w s).eq :)
@[simp] theorem addWeight_handbackDonePending (j : Fin 8) (w : Nat) (s : State) : (addWeight j w s).handbackDonePending = s.handbackDonePending :=
  (congrArg State.handbackDonePending (addWeight_onlyWake j w s).eq :)
@[simp] theorem addWeight_portOut (j : Fin 8) (w : Nat) (s : State) : (addWeight j w s).portOut = s.portOut :=
  (congrArg State.portOut (addWeight_onlyWake j w s).eq :)
@[simp] theorem addWeight_linkOut (j : Fin 8) (w : Nat) (s : State) : (addWeight j w s).linkOut = s.linkOut :=
  (congrArg State.linkOut (addWeight_onlyWake j w s).eq :)
@[simp] theorem addWeight_freeCount (j : Fin 8) (w : Nat) (s : State) : (addWeight j w s).freeCount = s.freeCount :=
  (congrArg State.freeCount (addWeight_onlyWake j w s).eq :)
@[simp] theorem addWeight_pending (j : Fin 8) (w : Nat) (s : State) : (addWeight j w s).pending = s.pending :=
  (congrArg State.pending (addWeight_onlyWake j w s).eq :)
@[simp] theorem evaluateAll_elapsed (s : State) : (evaluateAll s).elapsed = s.elapsed := (congrArg State.elapsed (evaluateAll_onlyWake s).eq :)
@[simp] theorem evaluateAll_hostInitiated (s : State) : (evaluateAll s).hostInitiated = s.hostInitiated := (congrArg State.hostInitiated (evaluateAll_onlyWake s).eq :)
@[simp] theorem evaluateAll_reclaimState (s : State) : (evaluateAll s).reclaimState = s.reclaimState := (congrArg State.reclaimState (evaluateAll_onlyWake s).eq :)
@[simp] theorem evaluateAll_reclaimTime (s : State) : (evaluateAll s).reclaimTime = s.reclaimTime := (congrArg State.reclaimTime (evaluateAll_onlyWake s).eq :)
@[simp] theorem evaluateAll_station (s : State) : (evaluateAll s).station = s.station := (congrArg State.station (evaluateAll_onlyWake s).eq :)
@[simp] theorem evaluateAll_stats (s : State) : (evaluateAll s).stats = s.stats := (congrArg State.stats (evaluateAll_onlyWake s).eq :)
@[simp] theorem evaluateAll_matchCounts (s : State) : (evaluateAll s).matchCounts = s.matchCounts := (congrArg State.matchCounts (evaluateAll_onlyWake s).eq :)
@[simp] theorem evaluateAll_entries (s : State) : (evaluateAll s).entries = s.entries := (congrArg State.entries (evaluateAll_onlyWake s).eq :)
@[simp] theorem evaluateAll_groups (s : State) : (evaluateAll s).groups = s.groups := (congrArg State.groups (evaluateAll_onlyWake s).eq :)
@[simp] theorem evaluateAll_rules (s : State) : (evaluateAll s).rules = s.rules := (congrArg State.rules (evaluateAll_onlyWake s).eq :)
@[simp] theorem evaluateAll_pool (s : State) : (evaluateAll s).pool = s.pool := (congrArg State.pool (evaluateAll_onlyWake s).eq :)
@[simp] theorem evaluateAll_patchLists (s : State) : (evaluateAll s).patchLists = s.patchLists := (congrArg State.patchLists (evaluateAll_onlyWake s).eq :)
@[simp] theorem evaluateAll_queue (s : State) : (evaluateAll s).queue = s.queue := (congrArg State.queue (evaluateAll_onlyWake s).eq :)
@[simp] theorem evaluateAll_linkState (s : State) : (evaluateAll s).linkState = s.linkState := (congrArg State.linkState (evaluateAll_onlyWake s).eq :)
@[simp] theorem evaluateAll_owner (s : State) : (evaluateAll s).owner = s.owner := (congrArg State.owner (evaluateAll_onlyWake s).eq :)
@[simp] theorem evaluateAll_duties (s : State) : (evaluateAll s).duties = s.duties := (congrArg State.duties (evaluateAll_onlyWake s).eq :)
@[simp] theorem evaluateAll_net (s : State) : (evaluateAll s).net = s.net := (congrArg State.net (evaluateAll_onlyWake s).eq :)
@[simp] theorem evaluateAll_signature (s : State) : (evaluateAll s).signature = s.signature := (congrArg State.signature (evaluateAll_onlyWake s).eq :)
@[simp] theorem evaluateAll_curve (s : State) : (evaluateAll s).curve = s.curve := (congrArg State.curve (evaluateAll_onlyWake s).eq :)
@[simp] theorem evaluateAll_windowCount (s : State) : (evaluateAll s).windowCount = s.windowCount := (congrArg State.windowCount (evaluateAll_onlyWake s).eq :)
@[simp] theorem evaluateAll_budget (s : State) : (evaluateAll s).budget = s.budget := (congrArg State.budget (evaluateAll_onlyWake s).eq :)
@[simp] theorem evaluateAll_spent (s : State) : (evaluateAll s).spent = s.spent := (congrArg State.spent (evaluateAll_onlyWake s).eq :)
@[simp] theorem evaluateAll_stormVote (s : State) : (evaluateAll s).stormVote = s.stormVote := (congrArg State.stormVote (evaluateAll_onlyWake s).eq :)
@[simp] theorem evaluateAll_windowTimer (s : State) : (evaluateAll s).windowTimer = s.windowTimer := (congrArg State.windowTimer (evaluateAll_onlyWake s).eq :)
@[simp] theorem evaluateAll_laneSettings (s : State) : (evaluateAll s).laneSettings = s.laneSettings := (congrArg State.laneSettings (evaluateAll_onlyWake s).eq :)
@[simp] theorem evaluateAll_resignals (s : State) : (evaluateAll s).resignals = s.resignals := (congrArg State.resignals (evaluateAll_onlyWake s).eq :)
@[simp] theorem evaluateAll_decayTimer (s : State) : (evaluateAll s).decayTimer = s.decayTimer := (congrArg State.decayTimer (evaluateAll_onlyWake s).eq :)
@[simp] theorem evaluateAll_settleTimer (s : State) : (evaluateAll s).settleTimer = s.settleTimer := (congrArg State.settleTimer (evaluateAll_onlyWake s).eq :)
@[simp] theorem evaluateAll_gapTimer (s : State) : (evaluateAll s).gapTimer = s.gapTimer := (congrArg State.gapTimer (evaluateAll_onlyWake s).eq :)
@[simp] theorem evaluateAll_held (s : State) : (evaluateAll s).held = s.held := (congrArg State.held (evaluateAll_onlyWake s).eq :)
@[simp] theorem evaluateAll_report (s : State) : (evaluateAll s).report = s.report := (congrArg State.report (evaluateAll_onlyWake s).eq :)
@[simp] theorem evaluateAll_reply (s : State) : (evaluateAll s).reply = s.reply := (congrArg State.reply (evaluateAll_onlyWake s).eq :)
@[simp] theorem evaluateAll_readyPending (s : State) : (evaluateAll s).readyPending = s.readyPending := (congrArg State.readyPending (evaluateAll_onlyWake s).eq :)
@[simp] theorem evaluateAll_handbackDonePending (s : State) : (evaluateAll s).handbackDonePending = s.handbackDonePending := (congrArg State.handbackDonePending (evaluateAll_onlyWake s).eq :)
@[simp] theorem evaluateAll_portOut (s : State) : (evaluateAll s).portOut = s.portOut := (congrArg State.portOut (evaluateAll_onlyWake s).eq :)
@[simp] theorem evaluateAll_linkOut (s : State) : (evaluateAll s).linkOut = s.linkOut := (congrArg State.linkOut (evaluateAll_onlyWake s).eq :)
@[simp] theorem evaluateAll_freeCount (s : State) : (evaluateAll s).freeCount = s.freeCount := (congrArg State.freeCount (evaluateAll_onlyWake s).eq :)
@[simp] theorem evaluateAll_pending (s : State) : (evaluateAll s).pending = s.pending := (congrArg State.pending (evaluateAll_onlyWake s).eq :)

/-! ### Joining the reason set -/

/-- The reason set after a member is tested for joining (R165, R170). -/
theorem joinReason_reasons (r : Fin 9) (s : State) (k : Nat) (h : k < 9) :
    (joinReason r s).reasons.getLsbD k = (s.reasons.getLsbD k || decide (k = r.val)) := by
  unfold joinReason; split
  · next hm => by_cases e : k = r.val <;> simp_all
  · simp [h]

/-- The first reason after a member is tested for joining: it is set once, by the first to join an empty set (R170). -/
theorem joinReason_firstReason (r : Fin 9) (s : State) :
    (joinReason r s).firstReason =
      if s.reasons = 0 then some { reason := r, time := s.elapsed } else s.firstReason := by
  unfold joinReason; split
  · next hm =>
    have : s.reasons ≠ 0 := by intro e; simp [e] at hm
    rw [if_neg this]
  · rfl

/-- A set that a member has joined is not empty. -/
theorem joinReason_ne (r : Fin 9) (s : State) : (joinReason r s).reasons ≠ 0 := by
  intro e
  have := joinReason_reasons r s r.val r.isLt
  simp [e] at this

/-! ### What an addition reads -/

/-- Two states agree in everything an addition reads or writes. -/
structure WakeEq (s t : State) : Prop where
  proxy : s.proxy = t.proxy
  settle : s.settleTimer = t.settleTimer
  lanes : s.lanes = t.lanes
  settings : s.laneSettings = t.laneSettings
  station : s.station = t.station
  reasons : s.reasons = t.reasons
  first : s.firstReason = t.firstReason
  elapsed : s.elapsed = t.elapsed
  wake : s.wake = t.wake
  patience : s.patienceTimer = t.patienceTimer

theorem joinReason_congr {s t : State} (r : Fin 9) (h : WakeEq s t) : WakeEq (joinReason r s) (joinReason r t) := by
  obtain ⟨h1, h2, h3, h4, h5, h6, h7, h8, h9, h10⟩ := h
  unfold joinReason
  rw [h6]
  split <;> constructor <;> simp_all

theorem testLane_congr {s t : State} (j : Fin 8) (h : WakeEq s t) : WakeEq (testLane s j) (testLane t j) := by
  have e : laneReached s j = laneReached t j := by unfold laneReached; rw [h.lanes, h.settings]
  unfold testLane
  rw [e]
  split
  · exact joinReason_congr _ h
  · exact h

theorem testTotal_congr {s t : State} (h : WakeEq s t) : WakeEq (testTotal s) (testTotal t) := by
  have e : totalReached s = totalReached t := by unfold totalReached laneTotal; rw [h.lanes, h.station]
  unfold testTotal
  rw [e]
  split
  · exact joinReason_congr _ h
  · exact h

theorem wakeDecision_congr {b c s t : State} (hb : b.reasons = c.reasons) (h : WakeEq s t) :
    WakeEq (wakeDecision b s) (wakeDecision c t) := by
  obtain ⟨h1, h2, h3, h4, h5, h6, h7, h8, h9, h10⟩ := h
  unfold wakeDecision
  rw [hb, h6, h1]
  split <;> constructor <;> simp_all

theorem evaluateLane_congr {s t : State} (j : Fin 8) (h : WakeEq s t) : WakeEq (evaluateLane j s) (evaluateLane j t) :=
  wakeDecision_congr h.reasons (testTotal_congr (testLane_congr j h))

/-- An addition reads nothing but what `WakeEq` names. -/
theorem addWeight_congr {s t : State} (j : Fin 8) (w : Nat) (h : WakeEq s t) :
    WakeEq (addWeight j w s) (addWeight j w t) := by
  have ha : s.active = t.active := by rw [State.active, State.active, h.proxy]
  have hl : WakeEq { s with lanes := s.lanes.set j (satAdd16 s.lanes[j] w) }
      { t with lanes := t.lanes.set j (satAdd16 t.lanes[j] w) } := by
    obtain ⟨h1, h2, h3, h4, h5, h6, h7, h8, h9, h10⟩ := h
    constructor <;> simp_all
  have hs := congrArg Option.isSome h.settle
  rcases addWeight_cases j w s with ⟨c, e⟩ | ⟨c, ca, cs, e⟩ | ⟨c, ca, cs, e⟩ <;>
    rcases addWeight_cases j w t with ⟨k, f⟩ | ⟨k, ka, ks, f⟩ | ⟨k, ka, ks, f⟩ <;> rw [e, f]
  · exact h
  all_goals first | exact hl | exact evaluateLane_congr j hl | (exfalso; clear e f hl h; simp_all)

/-- An addition to a state that agrees with another in what additions read: the same six fields change, in the same way. -/
theorem addWeight_of_wakeEq {s t : State} (j : Fin 8) (w : Nat) (h : WakeEq s t) :
    addWeight j w t = { t with
      lanes := (addWeight j w s).lanes, reasons := (addWeight j w s).reasons,
      firstReason := (addWeight j w s).firstReason, proxy := (addWeight j w s).proxy, wake := (addWeight j w s).wake,
      patienceTimer := (addWeight j w s).patienceTimer } := by
  obtain ⟨h1, -, h3, -, -, h6, h7, -, h9, h10⟩ := addWeight_congr j w h
  have := (addWeight_onlyWake j w t).eq
  rw [h1, h3, h6, h7, h9, h10]
  exact this

end Sys2Proof.Machine
end

