-- ==== Sys2Proof/Laws/Queue.lean ====
section
/-! SUPPORT. What the Transmit Queue's operations can do: launching the oldest entry, taking out the one in flight, admission. -/

namespace Sys2Proof.Machine

theorem someInFlight_eq_false (q : List TxEntry) : someInFlight q = false ↔ ∀ e ∈ q, e.inFlight = false := by
  simp [someInFlight]

theorem someInFlight_eq_true (q : List TxEntry) : someInFlight q = true ↔ ∃ e ∈ q, e.inFlight = true := by
  simp [someInFlight]

@[simp] theorem someInFlight_nil : someInFlight [] = false := rfl

@[simp] theorem someInFlight_append (p q : List TxEntry) : someInFlight (p ++ q) = (someInFlight p || someInFlight q) := by
  simp [someInFlight]

/-- With nothing in flight the head goes in flight (R86). -/
theorem launch_of_none (q : List TxEntry) (h : someInFlight q = false) :
    launch q = q.head?.map fun e => ({ e with inFlight := true } :: q.tail, e.frame) := by
  cases q with
  | nil => rfl
  | cons e q =>
    have : e.inFlight = false := (someInFlight_eq_false _).1 h e (by simp)
    simp [launch, this]

/-- Handing a frame over needs nothing in flight: otherwise the state stays as it is (R86). -/
theorem startTransmit_of_inFlight (s : State) (h : someInFlight s.queue = true) : startTransmit s = s := by
  simp [startTransmit, h]

/-- An empty queue hands nothing over. -/
theorem startTransmit_of_nil (s : State) (h : s.queue = []) : startTransmit s = s := by
  unfold startTransmit
  rw [h]
  simp [launch]

/-- Where the queue is served already, the end of an event hands nothing over. -/
theorem startTransmit_of_served (s : State) (h : someInFlight s.queue = false → s.queue = []) : startTransmit s = s := by
  cases hf : someInFlight s.queue
  · exact startTransmit_of_nil s (h hf)
  · exact startTransmit_of_inFlight s hf

/-- Outside PROXY, WAKING and HANDBACK nothing is handed over (R86). -/
theorem startTransmit_of_still (s : State) (h : s.active = false) (k : s.proxy ≠ .handback) : startTransmit s = s := by
  simp [startTransmit, h, k]

/-- Everything `startTransmit` can do (R86, R98): nothing, or, with nothing in flight, the head of the queue goes in flight and
its frame is sent. -/
theorem startTransmit_cases (s : State) :
    startTransmit s = s ∨
    ∃ e rest, (s.active = true ∨ s.proxy = .handback) ∧ someInFlight s.queue = false ∧ s.queue = e :: rest ∧
      startTransmit s =
        { s with queue := { e with inFlight := true } :: rest, portOut := s.portOut ++ [.frameToSend e.frame] } := by
  by_cases hp : s.active = true ∨ s.proxy = .handback
  · cases hf : someInFlight s.queue
    · cases hq : s.queue with
      | nil => exact .inl (startTransmit_of_nil s hq)
      | cons e rest =>
        refine .inr ⟨e, rest, hp, rfl, rfl, ?_⟩
        have hl := launch_of_none s.queue hf
        rw [hq] at hl
        have hc : (s.active || s.proxy == .handback) = true := by simpa using hp
        rw [startTransmit, hc, hf, hq, hl]
        rfl
    · exact .inl (startTransmit_of_inFlight s hf)
  · refine .inl (startTransmit_of_still s ?_ ?_)
    · simpa using fun h => hp (.inl h)
    · exact fun h => hp (.inr h)

/-- `t` differs from `s` at most in the queue and the record of what was sent. -/
def OnlySend (s t : State) : Prop := t = { s with queue := t.queue, portOut := t.portOut }

theorem OnlySend.eq {s t : State} (h : OnlySend s t) : t = { s with queue := t.queue, portOut := t.portOut } := h

theorem startTransmit_onlySend (s : State) : OnlySend s (startTransmit s) := by
  rcases startTransmit_cases s with h | ⟨e, rest, -, -, -, h⟩ <;> rw [h] <;> rfl

/-- After it, an entry is in flight or none waits, in the states that send (R86). -/
theorem startTransmit_served (s : State) (h : s.active = true ∨ s.proxy = .handback) :
    someInFlight (startTransmit s).queue = false → (startTransmit s).queue = [] := by
  cases hf : someInFlight s.queue
  · cases hq : s.queue with
    | nil => rw [startTransmit_of_nil s hq]; exact fun _ => hq
    | cons e rest =>
      have hl := launch_of_none s.queue hf
      rw [hq] at hl
      have hc : (s.active || s.proxy == .handback) = true := by simpa using h
      rw [startTransmit, hc, hf, hq, hl]
      simp [someInFlight]
  · rw [startTransmit_of_inFlight s hf, hf]; simp

/-! ### The entry in flight -/

/-- What taking out the entry in flight gives: the list is the entries before it, it, and the rest (R91). -/
theorem takeInFlight_some {q rest : List TxEntry} {e : TxEntry} (h : takeInFlight q = some (e, rest)) :
    ∃ before after, q = before ++ e :: after ∧ rest = before ++ after ∧ e.inFlight = true ∧
      ∀ x ∈ before, x.inFlight = false := by
  induction q generalizing rest with
  | nil => simp [takeInFlight] at h
  | cons x q ih =>
    cases hx : x.inFlight
    · simp only [takeInFlight, hx] at h
      cases hq : takeInFlight q with
      | none => simp [hq] at h
      | some p =>
        obtain ⟨y, r⟩ := p
        simp [hq] at h
        obtain ⟨rfl, rfl⟩ := h
        obtain ⟨b, a, h1, h2, h3, h4⟩ := ih hq
        refine ⟨x :: b, a, by simp [h1], by simp [h2], h3, ?_⟩
        simpa [hx] using h4
    · simp [takeInFlight, hx] at h
      obtain ⟨rfl, rfl⟩ := h
      exact ⟨[], q, by simp, by simp, hx, by simp⟩

theorem takeInFlight_none {q : List TxEntry} : takeInFlight q = none ↔ someInFlight q = false := by
  induction q with
  | nil => simp [takeInFlight]
  | cons x q ih => cases hx : x.inFlight <;> simp_all [takeInFlight, someInFlight]

theorem takeInFlight_append (before rest : List TxEntry) (e : TxEntry) (hb : ∀ x ∈ before, x.inFlight = false)
    (he : e.inFlight = true) : takeInFlight (before ++ e :: rest) = some (e, before ++ rest) := by
  induction before with
  | nil => simp [takeInFlight, he]
  | cons x b ih =>
    have hx : x.inFlight = false := hb x (by simp)
    simp [takeInFlight, hx, ih fun y hy => hb y (by simp [hy])]

/-! ### Admission -/

/-- What an offered answer does (R87, R88): admitted at the tail, or dropped and counted. -/
theorem offerAnswer_cases (i : Fin 32) (c : AnswerClass) (f : Frame) (s : State) :
    (c = .ordinary ∧ s.queue.length < 8 ∧ ordinaryCount s.queue < 6 ∧
      offerAnswer i c f s = enqueue (.rule i) .ordinary f { s with spent := s.spent + 1 }) ∨
    (c = .ordinary ∧ (8 ≤ s.queue.length ∨ 6 ≤ ordinaryCount s.queue) ∧
      offerAnswer i c f s = s.count fun t => { t with queueFull := satAdd32 t.queueFull 1 }) ∨
    (c = .essential ∧ s.queue.length < 8 ∧ offerAnswer i c f s = enqueue (.rule i) .essential f s) ∨
    (c = .essential ∧ 8 ≤ s.queue.length ∧
      offerAnswer i c f s = s.count fun t => { t with essentialDrop := satAdd32 t.essentialDrop 1 }) := by
  by_cases h8 : s.queue.length < 8 <;> by_cases h6 : ordinaryCount s.queue < 6 <;> cases c <;>
    simp [offerAnswer, admits, Config.queueLimit, Config.ordinaryLimit, h8, h6] <;> omega

/-! ### The fields the hand-over leaves alone -/

@[simp] theorem startTransmit_proxy (s : State) : (startTransmit s).proxy = s.proxy := (congrArg State.proxy (startTransmit_onlySend s).eq :)
@[simp] theorem startTransmit_elapsed (s : State) : (startTransmit s).elapsed = s.elapsed := (congrArg State.elapsed (startTransmit_onlySend s).eq :)
@[simp] theorem startTransmit_hostInitiated (s : State) : (startTransmit s).hostInitiated = s.hostInitiated := (congrArg State.hostInitiated (startTransmit_onlySend s).eq :)
@[simp] theorem startTransmit_reclaimState (s : State) : (startTransmit s).reclaimState = s.reclaimState := (congrArg State.reclaimState (startTransmit_onlySend s).eq :)
@[simp] theorem startTransmit_reclaimTime (s : State) : (startTransmit s).reclaimTime = s.reclaimTime := (congrArg State.reclaimTime (startTransmit_onlySend s).eq :)
@[simp] theorem startTransmit_station (s : State) : (startTransmit s).station = s.station := (congrArg State.station (startTransmit_onlySend s).eq :)
@[simp] theorem startTransmit_stats (s : State) : (startTransmit s).stats = s.stats := (congrArg State.stats (startTransmit_onlySend s).eq :)
@[simp] theorem startTransmit_matchCounts (s : State) : (startTransmit s).matchCounts = s.matchCounts := (congrArg State.matchCounts (startTransmit_onlySend s).eq :)
@[simp] theorem startTransmit_entries (s : State) : (startTransmit s).entries = s.entries := (congrArg State.entries (startTransmit_onlySend s).eq :)
@[simp] theorem startTransmit_groups (s : State) : (startTransmit s).groups = s.groups := (congrArg State.groups (startTransmit_onlySend s).eq :)
@[simp] theorem startTransmit_rules (s : State) : (startTransmit s).rules = s.rules := (congrArg State.rules (startTransmit_onlySend s).eq :)
@[simp] theorem startTransmit_pool (s : State) : (startTransmit s).pool = s.pool := (congrArg State.pool (startTransmit_onlySend s).eq :)
@[simp] theorem startTransmit_patchLists (s : State) : (startTransmit s).patchLists = s.patchLists := (congrArg State.patchLists (startTransmit_onlySend s).eq :)
@[simp] theorem startTransmit_linkState (s : State) : (startTransmit s).linkState = s.linkState := (congrArg State.linkState (startTransmit_onlySend s).eq :)
@[simp] theorem startTransmit_owner (s : State) : (startTransmit s).owner = s.owner := (congrArg State.owner (startTransmit_onlySend s).eq :)
@[simp] theorem startTransmit_duties (s : State) : (startTransmit s).duties = s.duties := (congrArg State.duties (startTransmit_onlySend s).eq :)
@[simp] theorem startTransmit_net (s : State) : (startTransmit s).net = s.net := (congrArg State.net (startTransmit_onlySend s).eq :)
@[simp] theorem startTransmit_signature (s : State) : (startTransmit s).signature = s.signature := (congrArg State.signature (startTransmit_onlySend s).eq :)
@[simp] theorem startTransmit_curve (s : State) : (startTransmit s).curve = s.curve := (congrArg State.curve (startTransmit_onlySend s).eq :)
@[simp] theorem startTransmit_windowCount (s : State) : (startTransmit s).windowCount = s.windowCount := (congrArg State.windowCount (startTransmit_onlySend s).eq :)
@[simp] theorem startTransmit_budget (s : State) : (startTransmit s).budget = s.budget := (congrArg State.budget (startTransmit_onlySend s).eq :)
@[simp] theorem startTransmit_spent (s : State) : (startTransmit s).spent = s.spent := (congrArg State.spent (startTransmit_onlySend s).eq :)
@[simp] theorem startTransmit_stormVote (s : State) : (startTransmit s).stormVote = s.stormVote := (congrArg State.stormVote (startTransmit_onlySend s).eq :)
@[simp] theorem startTransmit_windowTimer (s : State) : (startTransmit s).windowTimer = s.windowTimer := (congrArg State.windowTimer (startTransmit_onlySend s).eq :)
@[simp] theorem startTransmit_lanes (s : State) : (startTransmit s).lanes = s.lanes := (congrArg State.lanes (startTransmit_onlySend s).eq :)
@[simp] theorem startTransmit_laneSettings (s : State) : (startTransmit s).laneSettings = s.laneSettings := (congrArg State.laneSettings (startTransmit_onlySend s).eq :)
@[simp] theorem startTransmit_reasons (s : State) : (startTransmit s).reasons = s.reasons := (congrArg State.reasons (startTransmit_onlySend s).eq :)
@[simp] theorem startTransmit_firstReason (s : State) : (startTransmit s).firstReason = s.firstReason := (congrArg State.firstReason (startTransmit_onlySend s).eq :)
@[simp] theorem startTransmit_resignals (s : State) : (startTransmit s).resignals = s.resignals := (congrArg State.resignals (startTransmit_onlySend s).eq :)
@[simp] theorem startTransmit_decayTimer (s : State) : (startTransmit s).decayTimer = s.decayTimer := (congrArg State.decayTimer (startTransmit_onlySend s).eq :)
@[simp] theorem startTransmit_settleTimer (s : State) : (startTransmit s).settleTimer = s.settleTimer := (congrArg State.settleTimer (startTransmit_onlySend s).eq :)
@[simp] theorem startTransmit_patienceTimer (s : State) : (startTransmit s).patienceTimer = s.patienceTimer := (congrArg State.patienceTimer (startTransmit_onlySend s).eq :)
@[simp] theorem startTransmit_gapTimer (s : State) : (startTransmit s).gapTimer = s.gapTimer := (congrArg State.gapTimer (startTransmit_onlySend s).eq :)
@[simp] theorem startTransmit_wake (s : State) : (startTransmit s).wake = s.wake := (congrArg State.wake (startTransmit_onlySend s).eq :)
@[simp] theorem startTransmit_held (s : State) : (startTransmit s).held = s.held := (congrArg State.held (startTransmit_onlySend s).eq :)
@[simp] theorem startTransmit_report (s : State) : (startTransmit s).report = s.report := (congrArg State.report (startTransmit_onlySend s).eq :)
@[simp] theorem startTransmit_reply (s : State) : (startTransmit s).reply = s.reply := (congrArg State.reply (startTransmit_onlySend s).eq :)
@[simp] theorem startTransmit_readyPending (s : State) : (startTransmit s).readyPending = s.readyPending := (congrArg State.readyPending (startTransmit_onlySend s).eq :)
@[simp] theorem startTransmit_handbackDonePending (s : State) : (startTransmit s).handbackDonePending = s.handbackDonePending := (congrArg State.handbackDonePending (startTransmit_onlySend s).eq :)
@[simp] theorem startTransmit_linkOut (s : State) : (startTransmit s).linkOut = s.linkOut := (congrArg State.linkOut (startTransmit_onlySend s).eq :)
@[simp] theorem startTransmit_freeCount (s : State) : (startTransmit s).freeCount = s.freeCount := (congrArg State.freeCount (startTransmit_onlySend s).eq :)
@[simp] theorem startTransmit_pending (s : State) : (startTransmit s).pending = s.pending := (congrArg State.pending (startTransmit_onlySend s).eq :)

@[simp] theorem startTransmit_active (s : State) : (startTransmit s).active = s.active := by simp [State.active]

end Sys2Proof.Machine
end

