-- ==== Sys2Proof/Laws/Duty.lean ====
section
/-! SUPPORT. What the Duty Scheduler's operations can do: the fields they touch, and how they read back. -/

namespace Sys2Proof.Machine

/-- `t` differs from `s` at most in the duties and the Transmit Queue. -/
def OnlyDuties (s t : State) : Prop := t = { s with duties := t.duties, queue := t.queue }

theorem OnlyDuties.eq {s t : State} (h : OnlyDuties s t) : t = { s with duties := t.duties, queue := t.queue } := h

theorem OnlyDuties.trans {s t u : State} (h : OnlyDuties s t) (k : OnlyDuties t u) : OnlyDuties s u := by
  cases s; cases t; cases u
  simp_all [OnlyDuties]

theorem OnlyDuties.foldl {α : Type} (f : State → α → State) (hf : ∀ s a, OnlyDuties s (f s a)) (l : List α) (s : State) :
    OnlyDuties s (l.foldl f s) := by
  induction l generalizing s with
  | nil => rfl
  | cons a l ih => exact (hf s a).trans (ih _)

theorem updRun_onlyDuties (d : Fin 12) (f : DutyRun → DutyRun) (s : State) : OnlyDuties s (updRun d f s) := rfl

theorem mapRuns_onlyDuties (f : Fin 12 → DutySlot → DutyRun → DutyRun) (s : State) : OnlyDuties s (mapRuns f s) := rfl

/-- A try touches the duties and the queue alone (R109). -/
theorem makeTry_onlyDuties (d : Fin 12) (s : State) : OnlyDuties s (makeTry d s) := by
  unfold makeTry
  split
  · rfl
  · split
    · rfl
    · split
      · rfl
      · split <;> rfl

theorem startRun_onlyDuties (d : Fin 12) (s : State) : OnlyDuties s (startRun d s) := by
  unfold startRun
  split
  · rfl
  · exact (updRun_onlyDuties d _ s).trans (makeTry_onlyDuties d _)

theorem beginRun_onlyDuties (d : Fin 12) (s : State) : OnlyDuties s (beginRun d s) := by
  unfold beginRun
  split
  · rfl
  · split
    · rfl
    · split
      · rfl
      · exact startRun_onlyDuties d s

theorem resumeDuty_onlyDuties (s : State) (d : Fin 12) : OnlyDuties s (resumeDuty s d) := by
  unfold resumeDuty
  split
  · rfl
  · split
    · split
      · exact beginRun_onlyDuties d s
      · exact makeTry_onlyDuties d s
      · rfl
    · rfl

/-- The resumption of the DEFERRED duties touches the duties and the queue alone (R128). -/
theorem resumeDeferred_onlyDuties (s : State) : OnlyDuties s (resumeDeferred s) :=
  OnlyDuties.foldl resumeDuty resumeDuty_onlyDuties _ s

theorem offerTo_onlyDuties (len : Nat) (s : State) (d : Fin 12) : OnlyDuties s (offerTo len s d) := by
  unfold offerTo
  split
  · exact makeTry_onlyDuties d s
  · rfl

theorem offerPlace_onlyDuties (s : State) : OnlyDuties s (offerPlace s) := by
  unfold offerPlace
  split
  · exact OnlyDuties.foldl _ (offerTo_onlyDuties _) _ s
  · rfl

theorem offerPlaces_onlyDuties (n : Nat) (s : State) : OnlyDuties s (offerPlaces n s) := by
  induction n generalizing s with
  | zero => rfl
  | succ n ih => exact (offerPlace_onlyDuties s).trans (ih _)

/-- The arbiter touches the duties and the queue alone (R90). -/
theorem arbiter_onlyDuties (s : State) : OnlyDuties s (arbiter s) := offerPlaces_onlyDuties _ s

theorem succeedRun_onlyDuties (d : Fin 12) (f : Option Frame) (s : State) : OnlyDuties s (succeedRun d f s) := by
  unfold succeedRun
  split <;> rfl

/-! ### The arbiter without BLOCKED duties -/

theorem offerTo_of_not_blocked (len : Nat) (s : State) (d : Fin 12) (h : isBlocked s d = false) : offerTo len s d = s := by
  simp [offerTo, h]

theorem offers_of_not_blocked (len : Nat) (l : List (Fin 12)) (s : State) (h : ∀ d, isBlocked s d = false) :
    l.foldl (offerTo len) s = s := by
  induction l with
  | nil => rfl
  | cons d l ih => rw [List.foldl_cons, offerTo_of_not_blocked len s d (h d), ih]

theorem offerPlace_of_not_blocked (s : State) (h : ∀ d, isBlocked s d = false) : offerPlace s = s := by
  unfold offerPlace
  split
  · exact offers_of_not_blocked _ _ s h
  · rfl

/-- With no duty BLOCKED the arbiter does nothing (R90). -/
theorem arbiter_of_not_blocked (s : State) (h : ∀ d, isBlocked s d = false) : arbiter s = s := by
  unfold arbiter
  generalize Config.queueLimit - s.queue.length = n
  induction n with
  | zero => rfl
  | succ n ih => rw [offerPlaces, offerPlace_of_not_blocked s h, ih]

/-! ### Reading a duty after an update -/

theorem updRun_duties_self (d : Fin 12) (f : DutyRun → DutyRun) (s : State) :
    (updRun d f s).duties[d] = { s.duties[d] with duty := (s.duties[d]).duty.map fun u => { u with run := f u.run } } := by
  simp [updRun]

theorem updRun_duties_ne (d e : Fin 12) (f : DutyRun → DutyRun) (s : State) (h : d ≠ e) :
    (updRun d f s).duties[e] = s.duties[e] := by
  have : d.val ≠ e.val := fun c => h (Fin.ext c)
  simp [updRun, this]

@[simp] theorem updRun_probe (d e : Fin 12) (f : DutyRun → DutyRun) (s : State) :
    ((updRun d f s).duties[e]).probe = (s.duties[e]).probe := by
  by_cases h : d = e
  · subst h; rw [updRun_duties_self]
  · rw [updRun_duties_ne d e f s h]

/-- Two updates of one duty's run are one. -/
theorem updRun_updRun (d : Fin 12) (f g : DutyRun → DutyRun) (s : State) :
    updRun d g (updRun d f s) = updRun d (fun r => g (f r)) s := by
  simp [updRun, Option.map_map, Function.comp_def]

@[simp] theorem dutyLeave_updRun (d e : Fin 12) (f : DutyRun → DutyRun) (s : State) :
    dutyLeave (updRun d f s) e = dutyLeave s e := by
  simp only [dutyLeave, updRun_net, updRun_probe]

/-! ### The fields a try, a resumption and the arbiter leave alone -/

@[simp] theorem makeTry_proxy (d : Fin 12) (s : State) : (makeTry d s).proxy = s.proxy := (congrArg State.proxy (makeTry_onlyDuties d s).eq :)
@[simp] theorem makeTry_elapsed (d : Fin 12) (s : State) : (makeTry d s).elapsed = s.elapsed := (congrArg State.elapsed (makeTry_onlyDuties d s).eq :)
@[simp] theorem makeTry_hostInitiated (d : Fin 12) (s : State) : (makeTry d s).hostInitiated = s.hostInitiated := (congrArg State.hostInitiated (makeTry_onlyDuties d s).eq :)
@[simp] theorem makeTry_reclaimState (d : Fin 12) (s : State) : (makeTry d s).reclaimState = s.reclaimState := (congrArg State.reclaimState (makeTry_onlyDuties d s).eq :)
@[simp] theorem makeTry_reclaimTime (d : Fin 12) (s : State) : (makeTry d s).reclaimTime = s.reclaimTime := (congrArg State.reclaimTime (makeTry_onlyDuties d s).eq :)
@[simp] theorem makeTry_station (d : Fin 12) (s : State) : (makeTry d s).station = s.station := (congrArg State.station (makeTry_onlyDuties d s).eq :)
@[simp] theorem makeTry_stats (d : Fin 12) (s : State) : (makeTry d s).stats = s.stats := (congrArg State.stats (makeTry_onlyDuties d s).eq :)
@[simp] theorem makeTry_matchCounts (d : Fin 12) (s : State) : (makeTry d s).matchCounts = s.matchCounts := (congrArg State.matchCounts (makeTry_onlyDuties d s).eq :)
@[simp] theorem makeTry_entries (d : Fin 12) (s : State) : (makeTry d s).entries = s.entries := (congrArg State.entries (makeTry_onlyDuties d s).eq :)
@[simp] theorem makeTry_groups (d : Fin 12) (s : State) : (makeTry d s).groups = s.groups := (congrArg State.groups (makeTry_onlyDuties d s).eq :)
@[simp] theorem makeTry_rules (d : Fin 12) (s : State) : (makeTry d s).rules = s.rules := (congrArg State.rules (makeTry_onlyDuties d s).eq :)
@[simp] theorem makeTry_pool (d : Fin 12) (s : State) : (makeTry d s).pool = s.pool := (congrArg State.pool (makeTry_onlyDuties d s).eq :)
@[simp] theorem makeTry_patchLists (d : Fin 12) (s : State) : (makeTry d s).patchLists = s.patchLists := (congrArg State.patchLists (makeTry_onlyDuties d s).eq :)
@[simp] theorem makeTry_linkState (d : Fin 12) (s : State) : (makeTry d s).linkState = s.linkState := (congrArg State.linkState (makeTry_onlyDuties d s).eq :)
@[simp] theorem makeTry_owner (d : Fin 12) (s : State) : (makeTry d s).owner = s.owner := (congrArg State.owner (makeTry_onlyDuties d s).eq :)
@[simp] theorem makeTry_net (d : Fin 12) (s : State) : (makeTry d s).net = s.net := (congrArg State.net (makeTry_onlyDuties d s).eq :)
@[simp] theorem makeTry_signature (d : Fin 12) (s : State) : (makeTry d s).signature = s.signature := (congrArg State.signature (makeTry_onlyDuties d s).eq :)
@[simp] theorem makeTry_curve (d : Fin 12) (s : State) : (makeTry d s).curve = s.curve := (congrArg State.curve (makeTry_onlyDuties d s).eq :)
@[simp] theorem makeTry_windowCount (d : Fin 12) (s : State) : (makeTry d s).windowCount = s.windowCount := (congrArg State.windowCount (makeTry_onlyDuties d s).eq :)
@[simp] theorem makeTry_budget (d : Fin 12) (s : State) : (makeTry d s).budget = s.budget := (congrArg State.budget (makeTry_onlyDuties d s).eq :)
@[simp] theorem makeTry_spent (d : Fin 12) (s : State) : (makeTry d s).spent = s.spent := (congrArg State.spent (makeTry_onlyDuties d s).eq :)
@[simp] theorem makeTry_stormVote (d : Fin 12) (s : State) : (makeTry d s).stormVote = s.stormVote := (congrArg State.stormVote (makeTry_onlyDuties d s).eq :)
@[simp] theorem makeTry_windowTimer (d : Fin 12) (s : State) : (makeTry d s).windowTimer = s.windowTimer := (congrArg State.windowTimer (makeTry_onlyDuties d s).eq :)
@[simp] theorem makeTry_lanes (d : Fin 12) (s : State) : (makeTry d s).lanes = s.lanes := (congrArg State.lanes (makeTry_onlyDuties d s).eq :)
@[simp] theorem makeTry_laneSettings (d : Fin 12) (s : State) : (makeTry d s).laneSettings = s.laneSettings := (congrArg State.laneSettings (makeTry_onlyDuties d s).eq :)
@[simp] theorem makeTry_reasons (d : Fin 12) (s : State) : (makeTry d s).reasons = s.reasons := (congrArg State.reasons (makeTry_onlyDuties d s).eq :)
@[simp] theorem makeTry_firstReason (d : Fin 12) (s : State) : (makeTry d s).firstReason = s.firstReason := (congrArg State.firstReason (makeTry_onlyDuties d s).eq :)
@[simp] theorem makeTry_resignals (d : Fin 12) (s : State) : (makeTry d s).resignals = s.resignals := (congrArg State.resignals (makeTry_onlyDuties d s).eq :)
@[simp] theorem makeTry_decayTimer (d : Fin 12) (s : State) : (makeTry d s).decayTimer = s.decayTimer := (congrArg State.decayTimer (makeTry_onlyDuties d s).eq :)
@[simp] theorem makeTry_settleTimer (d : Fin 12) (s : State) : (makeTry d s).settleTimer = s.settleTimer := (congrArg State.settleTimer (makeTry_onlyDuties d s).eq :)
@[simp] theorem makeTry_patienceTimer (d : Fin 12) (s : State) : (makeTry d s).patienceTimer = s.patienceTimer := (congrArg State.patienceTimer (makeTry_onlyDuties d s).eq :)
@[simp] theorem makeTry_gapTimer (d : Fin 12) (s : State) : (makeTry d s).gapTimer = s.gapTimer := (congrArg State.gapTimer (makeTry_onlyDuties d s).eq :)
@[simp] theorem makeTry_wake (d : Fin 12) (s : State) : (makeTry d s).wake = s.wake := (congrArg State.wake (makeTry_onlyDuties d s).eq :)
@[simp] theorem makeTry_held (d : Fin 12) (s : State) : (makeTry d s).held = s.held := (congrArg State.held (makeTry_onlyDuties d s).eq :)
@[simp] theorem makeTry_report (d : Fin 12) (s : State) : (makeTry d s).report = s.report := (congrArg State.report (makeTry_onlyDuties d s).eq :)
@[simp] theorem makeTry_reply (d : Fin 12) (s : State) : (makeTry d s).reply = s.reply := (congrArg State.reply (makeTry_onlyDuties d s).eq :)
@[simp] theorem makeTry_readyPending (d : Fin 12) (s : State) : (makeTry d s).readyPending = s.readyPending := (congrArg State.readyPending (makeTry_onlyDuties d s).eq :)
@[simp] theorem makeTry_handbackDonePending (d : Fin 12) (s : State) : (makeTry d s).handbackDonePending = s.handbackDonePending := (congrArg State.handbackDonePending (makeTry_onlyDuties d s).eq :)
@[simp] theorem makeTry_portOut (d : Fin 12) (s : State) : (makeTry d s).portOut = s.portOut := (congrArg State.portOut (makeTry_onlyDuties d s).eq :)
@[simp] theorem makeTry_linkOut (d : Fin 12) (s : State) : (makeTry d s).linkOut = s.linkOut := (congrArg State.linkOut (makeTry_onlyDuties d s).eq :)
@[simp] theorem makeTry_freeCount (d : Fin 12) (s : State) : (makeTry d s).freeCount = s.freeCount := (congrArg State.freeCount (makeTry_onlyDuties d s).eq :)
@[simp] theorem makeTry_pending (d : Fin 12) (s : State) : (makeTry d s).pending = s.pending := (congrArg State.pending (makeTry_onlyDuties d s).eq :)
@[simp] theorem resumeDeferred_proxy (s : State) : (resumeDeferred s).proxy = s.proxy := (congrArg State.proxy (resumeDeferred_onlyDuties s).eq :)
@[simp] theorem resumeDeferred_elapsed (s : State) : (resumeDeferred s).elapsed = s.elapsed := (congrArg State.elapsed (resumeDeferred_onlyDuties s).eq :)
@[simp] theorem resumeDeferred_hostInitiated (s : State) : (resumeDeferred s).hostInitiated = s.hostInitiated := (congrArg State.hostInitiated (resumeDeferred_onlyDuties s).eq :)
@[simp] theorem resumeDeferred_reclaimState (s : State) : (resumeDeferred s).reclaimState = s.reclaimState := (congrArg State.reclaimState (resumeDeferred_onlyDuties s).eq :)
@[simp] theorem resumeDeferred_reclaimTime (s : State) : (resumeDeferred s).reclaimTime = s.reclaimTime := (congrArg State.reclaimTime (resumeDeferred_onlyDuties s).eq :)
@[simp] theorem resumeDeferred_station (s : State) : (resumeDeferred s).station = s.station := (congrArg State.station (resumeDeferred_onlyDuties s).eq :)
@[simp] theorem resumeDeferred_stats (s : State) : (resumeDeferred s).stats = s.stats := (congrArg State.stats (resumeDeferred_onlyDuties s).eq :)
@[simp] theorem resumeDeferred_matchCounts (s : State) : (resumeDeferred s).matchCounts = s.matchCounts := (congrArg State.matchCounts (resumeDeferred_onlyDuties s).eq :)
@[simp] theorem resumeDeferred_entries (s : State) : (resumeDeferred s).entries = s.entries := (congrArg State.entries (resumeDeferred_onlyDuties s).eq :)
@[simp] theorem resumeDeferred_groups (s : State) : (resumeDeferred s).groups = s.groups := (congrArg State.groups (resumeDeferred_onlyDuties s).eq :)
@[simp] theorem resumeDeferred_rules (s : State) : (resumeDeferred s).rules = s.rules := (congrArg State.rules (resumeDeferred_onlyDuties s).eq :)
@[simp] theorem resumeDeferred_pool (s : State) : (resumeDeferred s).pool = s.pool := (congrArg State.pool (resumeDeferred_onlyDuties s).eq :)
@[simp] theorem resumeDeferred_patchLists (s : State) : (resumeDeferred s).patchLists = s.patchLists := (congrArg State.patchLists (resumeDeferred_onlyDuties s).eq :)
@[simp] theorem resumeDeferred_linkState (s : State) : (resumeDeferred s).linkState = s.linkState := (congrArg State.linkState (resumeDeferred_onlyDuties s).eq :)
@[simp] theorem resumeDeferred_owner (s : State) : (resumeDeferred s).owner = s.owner := (congrArg State.owner (resumeDeferred_onlyDuties s).eq :)
@[simp] theorem resumeDeferred_net (s : State) : (resumeDeferred s).net = s.net := (congrArg State.net (resumeDeferred_onlyDuties s).eq :)
@[simp] theorem resumeDeferred_signature (s : State) : (resumeDeferred s).signature = s.signature := (congrArg State.signature (resumeDeferred_onlyDuties s).eq :)
@[simp] theorem resumeDeferred_curve (s : State) : (resumeDeferred s).curve = s.curve := (congrArg State.curve (resumeDeferred_onlyDuties s).eq :)
@[simp] theorem resumeDeferred_windowCount (s : State) : (resumeDeferred s).windowCount = s.windowCount := (congrArg State.windowCount (resumeDeferred_onlyDuties s).eq :)
@[simp] theorem resumeDeferred_budget (s : State) : (resumeDeferred s).budget = s.budget := (congrArg State.budget (resumeDeferred_onlyDuties s).eq :)
@[simp] theorem resumeDeferred_spent (s : State) : (resumeDeferred s).spent = s.spent := (congrArg State.spent (resumeDeferred_onlyDuties s).eq :)
@[simp] theorem resumeDeferred_stormVote (s : State) : (resumeDeferred s).stormVote = s.stormVote := (congrArg State.stormVote (resumeDeferred_onlyDuties s).eq :)
@[simp] theorem resumeDeferred_windowTimer (s : State) : (resumeDeferred s).windowTimer = s.windowTimer := (congrArg State.windowTimer (resumeDeferred_onlyDuties s).eq :)
@[simp] theorem resumeDeferred_lanes (s : State) : (resumeDeferred s).lanes = s.lanes := (congrArg State.lanes (resumeDeferred_onlyDuties s).eq :)
@[simp] theorem resumeDeferred_laneSettings (s : State) : (resumeDeferred s).laneSettings = s.laneSettings := (congrArg State.laneSettings (resumeDeferred_onlyDuties s).eq :)
@[simp] theorem resumeDeferred_reasons (s : State) : (resumeDeferred s).reasons = s.reasons := (congrArg State.reasons (resumeDeferred_onlyDuties s).eq :)
@[simp] theorem resumeDeferred_firstReason (s : State) : (resumeDeferred s).firstReason = s.firstReason := (congrArg State.firstReason (resumeDeferred_onlyDuties s).eq :)
@[simp] theorem resumeDeferred_resignals (s : State) : (resumeDeferred s).resignals = s.resignals := (congrArg State.resignals (resumeDeferred_onlyDuties s).eq :)
@[simp] theorem resumeDeferred_decayTimer (s : State) : (resumeDeferred s).decayTimer = s.decayTimer := (congrArg State.decayTimer (resumeDeferred_onlyDuties s).eq :)
@[simp] theorem resumeDeferred_settleTimer (s : State) : (resumeDeferred s).settleTimer = s.settleTimer := (congrArg State.settleTimer (resumeDeferred_onlyDuties s).eq :)
@[simp] theorem resumeDeferred_patienceTimer (s : State) : (resumeDeferred s).patienceTimer = s.patienceTimer := (congrArg State.patienceTimer (resumeDeferred_onlyDuties s).eq :)
@[simp] theorem resumeDeferred_gapTimer (s : State) : (resumeDeferred s).gapTimer = s.gapTimer := (congrArg State.gapTimer (resumeDeferred_onlyDuties s).eq :)
@[simp] theorem resumeDeferred_wake (s : State) : (resumeDeferred s).wake = s.wake := (congrArg State.wake (resumeDeferred_onlyDuties s).eq :)
@[simp] theorem resumeDeferred_held (s : State) : (resumeDeferred s).held = s.held := (congrArg State.held (resumeDeferred_onlyDuties s).eq :)
@[simp] theorem resumeDeferred_report (s : State) : (resumeDeferred s).report = s.report := (congrArg State.report (resumeDeferred_onlyDuties s).eq :)
@[simp] theorem resumeDeferred_reply (s : State) : (resumeDeferred s).reply = s.reply := (congrArg State.reply (resumeDeferred_onlyDuties s).eq :)
@[simp] theorem resumeDeferred_readyPending (s : State) : (resumeDeferred s).readyPending = s.readyPending := (congrArg State.readyPending (resumeDeferred_onlyDuties s).eq :)
@[simp] theorem resumeDeferred_handbackDonePending (s : State) : (resumeDeferred s).handbackDonePending = s.handbackDonePending := (congrArg State.handbackDonePending (resumeDeferred_onlyDuties s).eq :)
@[simp] theorem resumeDeferred_portOut (s : State) : (resumeDeferred s).portOut = s.portOut := (congrArg State.portOut (resumeDeferred_onlyDuties s).eq :)
@[simp] theorem resumeDeferred_linkOut (s : State) : (resumeDeferred s).linkOut = s.linkOut := (congrArg State.linkOut (resumeDeferred_onlyDuties s).eq :)
@[simp] theorem resumeDeferred_freeCount (s : State) : (resumeDeferred s).freeCount = s.freeCount := (congrArg State.freeCount (resumeDeferred_onlyDuties s).eq :)
@[simp] theorem resumeDeferred_pending (s : State) : (resumeDeferred s).pending = s.pending := (congrArg State.pending (resumeDeferred_onlyDuties s).eq :)
@[simp] theorem arbiter_proxy (s : State) : (arbiter s).proxy = s.proxy := (congrArg State.proxy (arbiter_onlyDuties s).eq :)
@[simp] theorem arbiter_elapsed (s : State) : (arbiter s).elapsed = s.elapsed := (congrArg State.elapsed (arbiter_onlyDuties s).eq :)
@[simp] theorem arbiter_hostInitiated (s : State) : (arbiter s).hostInitiated = s.hostInitiated := (congrArg State.hostInitiated (arbiter_onlyDuties s).eq :)
@[simp] theorem arbiter_reclaimState (s : State) : (arbiter s).reclaimState = s.reclaimState := (congrArg State.reclaimState (arbiter_onlyDuties s).eq :)
@[simp] theorem arbiter_reclaimTime (s : State) : (arbiter s).reclaimTime = s.reclaimTime := (congrArg State.reclaimTime (arbiter_onlyDuties s).eq :)
@[simp] theorem arbiter_station (s : State) : (arbiter s).station = s.station := (congrArg State.station (arbiter_onlyDuties s).eq :)
@[simp] theorem arbiter_stats (s : State) : (arbiter s).stats = s.stats := (congrArg State.stats (arbiter_onlyDuties s).eq :)
@[simp] theorem arbiter_matchCounts (s : State) : (arbiter s).matchCounts = s.matchCounts := (congrArg State.matchCounts (arbiter_onlyDuties s).eq :)
@[simp] theorem arbiter_entries (s : State) : (arbiter s).entries = s.entries := (congrArg State.entries (arbiter_onlyDuties s).eq :)
@[simp] theorem arbiter_groups (s : State) : (arbiter s).groups = s.groups := (congrArg State.groups (arbiter_onlyDuties s).eq :)
@[simp] theorem arbiter_rules (s : State) : (arbiter s).rules = s.rules := (congrArg State.rules (arbiter_onlyDuties s).eq :)
@[simp] theorem arbiter_pool (s : State) : (arbiter s).pool = s.pool := (congrArg State.pool (arbiter_onlyDuties s).eq :)
@[simp] theorem arbiter_patchLists (s : State) : (arbiter s).patchLists = s.patchLists := (congrArg State.patchLists (arbiter_onlyDuties s).eq :)
@[simp] theorem arbiter_linkState (s : State) : (arbiter s).linkState = s.linkState := (congrArg State.linkState (arbiter_onlyDuties s).eq :)
@[simp] theorem arbiter_owner (s : State) : (arbiter s).owner = s.owner := (congrArg State.owner (arbiter_onlyDuties s).eq :)
@[simp] theorem arbiter_net (s : State) : (arbiter s).net = s.net := (congrArg State.net (arbiter_onlyDuties s).eq :)
@[simp] theorem arbiter_signature (s : State) : (arbiter s).signature = s.signature := (congrArg State.signature (arbiter_onlyDuties s).eq :)
@[simp] theorem arbiter_curve (s : State) : (arbiter s).curve = s.curve := (congrArg State.curve (arbiter_onlyDuties s).eq :)
@[simp] theorem arbiter_windowCount (s : State) : (arbiter s).windowCount = s.windowCount := (congrArg State.windowCount (arbiter_onlyDuties s).eq :)
@[simp] theorem arbiter_budget (s : State) : (arbiter s).budget = s.budget := (congrArg State.budget (arbiter_onlyDuties s).eq :)
@[simp] theorem arbiter_spent (s : State) : (arbiter s).spent = s.spent := (congrArg State.spent (arbiter_onlyDuties s).eq :)
@[simp] theorem arbiter_stormVote (s : State) : (arbiter s).stormVote = s.stormVote := (congrArg State.stormVote (arbiter_onlyDuties s).eq :)
@[simp] theorem arbiter_windowTimer (s : State) : (arbiter s).windowTimer = s.windowTimer := (congrArg State.windowTimer (arbiter_onlyDuties s).eq :)
@[simp] theorem arbiter_lanes (s : State) : (arbiter s).lanes = s.lanes := (congrArg State.lanes (arbiter_onlyDuties s).eq :)
@[simp] theorem arbiter_laneSettings (s : State) : (arbiter s).laneSettings = s.laneSettings := (congrArg State.laneSettings (arbiter_onlyDuties s).eq :)
@[simp] theorem arbiter_reasons (s : State) : (arbiter s).reasons = s.reasons := (congrArg State.reasons (arbiter_onlyDuties s).eq :)
@[simp] theorem arbiter_firstReason (s : State) : (arbiter s).firstReason = s.firstReason := (congrArg State.firstReason (arbiter_onlyDuties s).eq :)
@[simp] theorem arbiter_resignals (s : State) : (arbiter s).resignals = s.resignals := (congrArg State.resignals (arbiter_onlyDuties s).eq :)
@[simp] theorem arbiter_decayTimer (s : State) : (arbiter s).decayTimer = s.decayTimer := (congrArg State.decayTimer (arbiter_onlyDuties s).eq :)
@[simp] theorem arbiter_settleTimer (s : State) : (arbiter s).settleTimer = s.settleTimer := (congrArg State.settleTimer (arbiter_onlyDuties s).eq :)
@[simp] theorem arbiter_patienceTimer (s : State) : (arbiter s).patienceTimer = s.patienceTimer := (congrArg State.patienceTimer (arbiter_onlyDuties s).eq :)
@[simp] theorem arbiter_gapTimer (s : State) : (arbiter s).gapTimer = s.gapTimer := (congrArg State.gapTimer (arbiter_onlyDuties s).eq :)
@[simp] theorem arbiter_wake (s : State) : (arbiter s).wake = s.wake := (congrArg State.wake (arbiter_onlyDuties s).eq :)
@[simp] theorem arbiter_held (s : State) : (arbiter s).held = s.held := (congrArg State.held (arbiter_onlyDuties s).eq :)
@[simp] theorem arbiter_report (s : State) : (arbiter s).report = s.report := (congrArg State.report (arbiter_onlyDuties s).eq :)
@[simp] theorem arbiter_reply (s : State) : (arbiter s).reply = s.reply := (congrArg State.reply (arbiter_onlyDuties s).eq :)
@[simp] theorem arbiter_readyPending (s : State) : (arbiter s).readyPending = s.readyPending := (congrArg State.readyPending (arbiter_onlyDuties s).eq :)
@[simp] theorem arbiter_handbackDonePending (s : State) : (arbiter s).handbackDonePending = s.handbackDonePending := (congrArg State.handbackDonePending (arbiter_onlyDuties s).eq :)
@[simp] theorem arbiter_portOut (s : State) : (arbiter s).portOut = s.portOut := (congrArg State.portOut (arbiter_onlyDuties s).eq :)
@[simp] theorem arbiter_linkOut (s : State) : (arbiter s).linkOut = s.linkOut := (congrArg State.linkOut (arbiter_onlyDuties s).eq :)
@[simp] theorem arbiter_freeCount (s : State) : (arbiter s).freeCount = s.freeCount := (congrArg State.freeCount (arbiter_onlyDuties s).eq :)
@[simp] theorem arbiter_pending (s : State) : (arbiter s).pending = s.pending := (congrArg State.pending (arbiter_onlyDuties s).eq :)

end Sys2Proof.Machine
end

