-- ==== Sys2Proof/Laws/Net.lean ====
section
/-! SUPPORT. What the Network Check's and the classifier's operations can do: the fields they touch, and that they leave the part
active or not as it was. -/

namespace Sys2Proof.Machine

/-- `t` differs from `s` at most in the Wake Unit's fields, the duties, the Transmit Queue, the network state and the
statistics. -/
def OnlyNet (s t : State) : Prop :=
  t = { s with
    lanes := t.lanes, reasons := t.reasons, firstReason := t.firstReason, proxy := t.proxy, wake := t.wake,
    patienceTimer := t.patienceTimer, duties := t.duties, queue := t.queue, net := t.net, stats := t.stats }

theorem OnlyNet.eq {s t : State} (h : OnlyNet s t) : t = { s with
    lanes := t.lanes, reasons := t.reasons, firstReason := t.firstReason, proxy := t.proxy, wake := t.wake,
    patienceTimer := t.patienceTimer, duties := t.duties, queue := t.queue, net := t.net, stats := t.stats } := h

theorem OnlyNet.trans {s t u : State} (h : OnlyNet s t) (k : OnlyNet t u) : OnlyNet s u := by
  cases s; cases t; cases u
  simp_all [OnlyNet]

theorem OnlyWake.net {s t : State} (h : OnlyWake s t) : OnlyNet s t := by
  cases s; cases t
  simp_all [OnlyNet, OnlyWake]

theorem OnlyDuties.net {s t : State} (h : OnlyDuties s t) : OnlyNet s t := by
  cases s; cases t
  simp_all [OnlyNet, OnlyDuties]

theorem failureAction_onlyNet (d : Fin 12) (s : State) : OnlyNet s (failureAction d s) := by
  unfold failureAction
  split
  · rfl
  · split
    · exact (addWeight_onlyWake _ _ s).net.trans (updRun_onlyDuties d _ _).net
    · rfl
    · rfl

theorem enterForeign_onlyNet (s : State) : OnlyNet s (enterForeign s) := by
  unfold enterForeign
  refine OnlyNet.trans ?_ (mapRuns_onlyDuties _ _).net
  split
  · exact OnlyNet.trans (t := { s with net := .foreign }) rfl (addWeight_onlyWake _ _ _).net
  · rfl

theorem probeForeign_onlyNet (d : Fin 12) (s : State) : OnlyNet s (probeForeign d s) :=
  (updRun_onlyDuties d _ s).net.trans (enterForeign_onlyNet _)

theorem failRound_onlyNet (d : Fin 12) (s : State) : OnlyNet s (failRound d s) := by
  unfold failRound
  split
  · rfl
  · split
    · exact (updRun_onlyDuties d _ s).net.trans (probeForeign_onlyNet d _)
    · dsimp only
      split
      · rfl
      · exact (updRun_onlyDuties d _ s).net.trans (failureAction_onlyNet d _)

theorem failTry_onlyNet (d : Fin 12) (s : State) : OnlyNet s (failTry d s) := by
  unfold failTry
  split
  · rfl
  · dsimp only
    split
    · exact (updRun_onlyDuties d _ s).net.trans (makeTry_onlyDuties d _).net
    · exact (updRun_onlyDuties d _ s).net.trans (failRound_onlyNet d _)

theorem takeReply_onlyNet (d : Fin 12) (f : Frame) (s : State) : OnlyNet s (takeReply d f s) := by
  unfold takeReply
  dsimp only
  split
  · split
    · exact (OnlyNet.trans (t := { s with net := .attached }) rfl (succeedRun_onlyDuties d _ _).net).trans
        (resumeDeferred_onlyDuties _).net
    · exact probeForeign_onlyNet d s
  · split
    · exact (succeedRun_onlyDuties d _ s).net.trans (enterForeign_onlyNet _)
    · exact (succeedRun_onlyDuties d _ s).net

theorem takeReject_onlyNet (d : Fin 12) (s : State) : OnlyNet s (takeReject d s) := by
  unfold takeReject
  dsimp only
  split
  · exact (updRun_onlyDuties d _ s).net.trans (probeForeign_onlyNet d _)
  · exact (updRun_onlyDuties d _ s).net.trans (failureAction_onlyNet d _)

theorem consumeFrame_onlyNet (d : Fin 12) (f : Frame) (s : State) : OnlyNet s (consumeFrame d f s) := by
  unfold consumeFrame
  split
  · exact takeReply_onlyNet d f s
  · exact takeReject_onlyNet d s

theorem dutyResult_onlyNet (d : Fin 12) (r : TxResult) (s : State) : OnlyNet s (dutyResult d r s) := by
  unfold dutyResult
  split
  · rfl
  · split
    · rfl
    · split
      · exact (updRun_onlyDuties d _ s).net.trans (makeTry_onlyDuties d _).net
      · split
        · exact failTry_onlyNet d s
        · split
          · rfl
          · exact (succeedRun_onlyDuties d _ s).net

theorem linkDown_onlyNet (s : State) : OnlyNet s (linkDown s) := by
  unfold linkDown
  split
  · rfl
  · refine OnlyNet.trans (t := dropQueued { s with net := .linkDown }) rfl ?_
    exact (mapRuns_onlyDuties _ _).net.trans (arbiter_onlyDuties _).net

theorem restartProbe_onlyDuties (s : State) : OnlyDuties s (restartProbe s) := by
  unfold restartProbe
  split
  · rfl
  · split
    · rfl
    · dsimp only
      split
      · rfl
      · exact (updRun_onlyDuties _ _ s).trans (makeTry_onlyDuties _ _)

theorem linkUp_onlyNet (s : State) : OnlyNet s (linkUp s) := by
  unfold linkUp
  split
  · split
    · exact OnlyNet.trans (t := { s with net := .checking }) rfl (restartProbe_onlyDuties _).net
    · exact OnlyNet.trans (t := { s with net := .attached }) rfl (resumeDeferred_onlyDuties _).net
  · rfl

/-! ### Received frames -/

/-- `t` differs from `s` at most in what a received frame can touch. -/
def OnlyReceive (s t : State) : Prop :=
  t = { s with
    lanes := t.lanes, reasons := t.reasons, firstReason := t.firstReason, proxy := t.proxy, wake := t.wake,
    patienceTimer := t.patienceTimer, duties := t.duties, queue := t.queue, net := t.net, stats := t.stats,
    windowCount := t.windowCount, spent := t.spent, matchCounts := t.matchCounts, entries := t.entries,
    held := t.held, portOut := t.portOut }

theorem OnlyReceive.trans {s t u : State} (h : OnlyReceive s t) (k : OnlyReceive t u) : OnlyReceive s u := by
  cases s; cases t; cases u
  simp_all [OnlyReceive]

theorem OnlyNet.receive {s t : State} (h : OnlyNet s t) : OnlyReceive s t := by
  cases s; cases t
  simp_all [OnlyNet, OnlyReceive]

theorem offerAnswer_onlyReceive (i : Fin 32) (c : AnswerClass) (f : Frame) (s : State) :
    OnlyReceive s (offerAnswer i c f s) := by
  unfold offerAnswer
  cases c <;> dsimp only <;> split <;> rfl

theorem answerWith_onlyReceive (i : Fin 32) (r : Rule) (c : AnswerClass) (f : Frame) (m : Option (Fin 16)) (s : State) :
    OnlyReceive s (answerWith i r c f m s) := by
  unfold answerWith
  split
  · rfl
  · exact offerAnswer_onlyReceive _ _ _ s

theorem ruleClaim_onlyReceive (i : Fin 16) (a : LinkAddr) (s : State) : OnlyReceive s (ruleClaim i a s).1 := by
  unfold ruleClaim
  split
  · rfl
  · split
    · rfl
    · dsimp only
      split
      · rfl
      · exact OnlyReceive.trans (t := updEntry i AddrEntry.lose (updEntry i (AddrEntry.recordClaim a) s)) rfl
          (addWeight_onlyWake _ _ _).net.receive
      · exact OnlyReceive.trans (t := updEntry i AddrEntry.lose (updEntry i (AddrEntry.recordClaim a) s)) rfl
          (addWeight_onlyWake _ _ _).net.receive
      · rfl

theorem actHold_onlyReceive (i : Fin 32) (f : Frame) (s : State) : OnlyReceive s (actHold i f s) := by
  unfold actHold
  split <;> rfl

theorem act_onlyReceive (i : Fin 32) (r : Rule) (f : Frame) (m : Option (Fin 16)) (s : State) :
    OnlyReceive s (act i r f m s) := by
  unfold act
  split
  · unfold actAnswer
    split
    · rfl
    · split
      · rfl
      · exact answerWith_onlyReceive i r _ f m s
  · exact actHold_onlyReceive i f s
  · rfl
  · unfold actClaim
    split
    · rfl
    · dsimp only
      split
      · exact (ruleClaim_onlyReceive _ _ s).trans (answerWith_onlyReceive i r _ f _ _)
      · exact ruleClaim_onlyReceive _ _ s
  · rfl

theorem dispatch_onlyReceive (i : Fin 32) (f : Frame) (m : Option (Fin 16)) (s : State) :
    OnlyReceive s (dispatch i f m s) :=
  (OnlyReceive.trans (t := countMatch i s) rfl (act_onlyReceive i _ f m _)).trans (addWeight_onlyWake _ _ _).net.receive

theorem classify_onlyReceive (f : Frame) (s : State) : OnlyReceive s (classify f s) := by
  unfold classify
  dsimp only
  split
  · rfl
  · split
    · rfl
    · split
      · rfl
      · next c _ =>
        refine OnlyReceive.trans (t := s.count fun t => { t with received := satAdd32 t.received 1 }) rfl ?_
        generalize (s.count fun t => { t with received := satAdd32 t.received 1 }) = x
        split
        · unfold classifyHandback
          split
          · rfl
          · unfold dispatchHandback
            split
            · exact OnlyReceive.trans (t := countMatch _ x) rfl (actHold_onlyReceive _ _ _)
            · rfl
        · unfold classifyActive
          dsimp only
          have hl : OnlyReceive x (countLoad c x) := by cases c <;> rfl
          refine hl.trans ?_
          generalize countLoad c x = y
          split
          · exact (consumeFrame_onlyNet _ _ y).receive
          · split
            · rfl
            · split
              · rfl
              · exact dispatch_onlyReceive _ _ _ y

/-- A received frame touches no profile, no link or owner, no timer but an entry's or a duty's, patience apart (R22 to R45). -/
theorem receiveFrame_onlyReceive (f : Frame) (s : State) : OnlyReceive s (receiveFrame f s) := by
  unfold receiveFrame
  split
  · refine (classify_onlyReceive f s).trans ?_
    have h := startTransmit_onlySend (classify f s)
    generalize startTransmit (classify f s) = t at h ⊢
    generalize classify f s = u at h ⊢
    cases t; cases u
    simp_all [OnlySend, OnlyReceive]
  · rfl

end Sys2Proof.Machine
end

