-- ==== Sys2Proof/Laws/Link.lean ====
section
/-! SUPPORT. What a request, a READ, a lifecycle operation and a load window can do. -/

namespace Sys2Proof.Machine

/-! ### Requests -/

/-- Everything a request can do (R189 to R191): discarded, dropped with the unread reply marked, or examined and answered. -/
theorem takeRequest_cases (k : RequestKind) (m : Request) (s : State) :
    (m.complete = false ∧ takeRequest k m s = s) ∨
    (m.complete = true ∧ ∃ r, s.reply = some r ∧ takeRequest k m s = { s with reply := some { r with dropped := true } }) ∨
    (m.complete = true ∧ s.reply = none ∧ takeRequest k m s = settle k.kind m.tag (examine k m s) s) := by
  cases hc : m.complete <;> cases hr : s.reply <;> simp [takeRequest, hc, hr]

/-- What the examination comes to (R190): refused for its length, its state or its size, or judged by its own rule. -/
theorem examine_cases (k : RequestKind) (m : Request) (s : State) :
    (∃ st body, examine k m s = .refused st body) ∨
    (m.stated.toNat ≤ 1600 ∧ m.stated.toNat = m.body.length ∧ k.accepts s.proxy = true ∧
      (∀ n ∈ k.size, n = m.body.length) ∧ examine k m s = k.perform m.body s) := by
  unfold examine
  split
  · exact .inl ⟨_, _, rfl⟩
  · next h1 =>
    split
    · exact .inl ⟨_, _, rfl⟩
    · next h2 =>
      split
      · exact .inl ⟨_, _, rfl⟩
      · next h3 =>
        refine .inr ⟨?_, ?_, ?_, ?_, rfl⟩
        · simp [Config.bodyLimit] at h1; omega
        · simp at h1; exact h1.2
        · simpa using h2
        · intro n hn
          refine Decidable.byContradiction fun hne => h3 ?_
          rw [Option.mem_def] at hn
          simp [hn, hne]

/-- A request changes the state by its own effect alone, the reply apart, or not at all (R190, R195). -/
theorem takeRequest_effect (k : RequestKind) (m : Request) (s : State) :
    (∃ r, takeRequest k m s = { s with reply := r }) ∨
    (∃ t c body r, k.accepts s.proxy = true ∧ s.reply = none ∧ k.perform m.body s = .performed t c body ∧
      takeRequest k m s = { t with reply := some r } ∧ r.status = .ok) ∨
    (∃ t, k.accepts s.proxy = true ∧ s.reply = none ∧ k.perform m.body s = .silent t ∧ takeRequest k m s = t) := by
  rcases takeRequest_cases k m s with ⟨-, h⟩ | ⟨-, r, -, h⟩ | ⟨-, hr, h⟩
  · exact .inl ⟨s.reply, h⟩
  · exact .inl ⟨_, h⟩
  · rcases examine_cases k m s with ⟨st, body, he⟩ | ⟨-, -, ha, -, he⟩
    · exact .inl ⟨_, by rw [h, he]; rfl⟩
    · cases hv : k.perform m.body s with
      | performed t c body => exact .inr (.inl ⟨t, c, body, _, ha, hr, rfl, by rw [h, he, hv]; rfl, rfl⟩)
      | refused st body => exact .inl ⟨_, by rw [h, he, hv]; rfl⟩
      | silent t => exact .inr (.inr ⟨t, ha, hr, rfl, by rw [h, he, hv]; rfl⟩)

/-- A READ touches the reply slot, the notices and the record of what was shifted out (R193). -/
theorem readMessage_only (n : Nat) (s : State) :
    readMessage n s =
      { s with
        reply := (readMessage n s).reply
        readyPending := (readMessage n s).readyPending
        handbackDonePending := (readMessage n s).handbackDonePending
        linkOut := (readMessage n s).linkOut } := by
  unfold readMessage
  dsimp only
  split
  · unfold removeDelivered
    split
    · rfl
    · split <;> rfl
  · rfl

/-! ### Handback -/

/-- Handback completes, or nothing happens (R13). -/
theorem handbackIfClear_cases (s : State) :
    (s.proxy = .handback ∧ someInFlight s.queue = false ∧ handbackIfClear s = completeHandback s) ∨
    ((s.proxy ≠ .handback ∨ someInFlight s.queue = true) ∧ handbackIfClear s = s) := by
  by_cases hp : s.proxy = .handback <;> cases hf : someInFlight s.queue <;> simp [handbackIfClear, hp, hf]

/-- What a transmit result can do (R91, R92): nothing, or the entry in flight is taken out and its origin acts. -/
theorem completeTransmit_cases (r : TxResult) (s : State) :
    completeTransmit r s = s ∨
    ∃ e rest, takeInFlight s.queue = some (e, rest) ∧
      ((s.active = true ∧ completeTransmit r s = startTransmit (arbiter (handResult e.origin r { s with queue := rest }))) ∨
       (s.proxy = .handback ∧ completeTransmit r s = handbackIfClear (handResult e.origin r { s with queue := rest }))) := by
  unfold completeTransmit
  split
  · next h =>
    split
    · exact .inl rfl
    · next e rest ht =>
      refine .inr ⟨e, rest, ht, ?_⟩
      by_cases hp : s.proxy = .handback
      · have hh : (handResult e.origin r { s with queue := rest }).proxy = .handback := by
          unfold handResult
          split
          · cases r <;> exact hp
          · have ha : s.active = false := by simp [State.active, hp]
            have hb : State.active { s with queue := rest } = false := ha
            rw [hb]
            exact hp
        right
        simp [hp]
      · left
        simp [hp] at h ⊢
        exact h
  · exact .inl rfl

/-! ### The load window -/

/-- What the storm vote can do (R156): nothing, a vote of 0, one more vote, or the weight delivered with the vote back at 0. -/
theorem takeStormVote_cases (n : Nat) (s : State) :
    (s.curve.stormLevel = 0 ∧ takeStormVote n s = s) ∨
    (s.curve.stormLevel ≠ 0 ∧ n < s.curve.stormLevel ∧ takeStormVote n s = { s with stormVote := 0 }) ∨
    (s.curve.stormLevel ≠ 0 ∧ s.curve.stormLevel ≤ n ∧ s.stormVote < 2 ∧
      takeStormVote n s =
        { s with
          stats := { s.stats with stormWindows := satAdd32 s.stats.stormWindows 1 }, stormVote := s.stormVote + 1 }) ∨
    (s.curve.stormLevel ≠ 0 ∧ s.curve.stormLevel ≤ n ∧ 2 ≤ s.stormVote ∧
      takeStormVote n s = addWeight s.curve.stormLane s.curve.stormWeight
        { s with
          stats := { s.stats with stormWindows := satAdd32 s.stats.stormWindows 1 }, stormVote := 0 }) := by
  by_cases h0 : s.curve.stormLevel = 0
  · exact .inl ⟨h0, by simp [takeStormVote, h0]⟩
  · by_cases hn : n < s.curve.stormLevel
    · exact .inr (.inl ⟨h0, hn, by simp [takeStormVote, h0, hn]⟩)
    · by_cases hv : s.stormVote < 2
      · refine .inr (.inr (.inl ⟨h0, by omega, hv, ?_⟩))
        have : s.stormVote + 1 < 3 := by omega
        simp [takeStormVote, h0, hn, this, State.count]
      · refine .inr (.inr (.inr ⟨h0, by omega, by omega, ?_⟩))
        have : ¬s.stormVote + 1 < 3 := by omega
        simp [takeStormVote, h0, hn, this, State.count]

/-- The budget moves to the target at once when that is lower, and otherwise by at most the ramp step (R154). -/
theorem moveBudget_cases (budget target ramp : Nat) :
    (target ≤ budget ∧ moveBudget budget target ramp = target) ∨
    (budget < target ∧ budget ≤ moveBudget budget target ramp ∧ moveBudget budget target ramp ≤ target) := by
  unfold moveBudget
  split <;> omega

/-! ### Duty timers -/

/-- A backoff expiry touches the duties and the queue alone (R117). -/
theorem expireBackoff_onlyDuties (d : Fin 12) (s : State) : OnlyDuties s (expireBackoff d s) := by
  unfold expireBackoff
  split
  · rfl
  · split
    · exact (updRun_onlyDuties _ _ s).trans (makeTry_onlyDuties _ _)
    · rfl

/-! ### Rearm, Detach and Clear Profile -/

/-- Rearm leaves the network state LINK_DOWN (R15, R137). -/
@[simp] theorem rearmAll_net (s : State) : (rearmAll s).net = .linkDown := rfl

/-- Detach and Clear Profile leave the network state LINK_DOWN, as Rearm does (R16, R17; log 6). -/
@[simp] theorem clearAll_net (s : State) : (clearAll s).net = .linkDown := rfl

/-- Detach and Clear Profile leave the proxy state IDLE and the profile tables empty (R16, R17). -/
@[simp] theorem clearAll_pool (s : State) : (clearAll s).pool = [] := rfl

@[simp] theorem clearAll_proxy (s : State) : (clearAll s).proxy = .idle := rfl

end Sys2Proof.Machine
end

