-- ==== Sys2Proof/Tests/Slice0.lean ====
section
/-! SUPPORT. The model's own tests: the smoke tests of well-formedness, the byte layouts written out from R200, one or two
small tests a command with results worked out from the spec's rules, and a witness for the hypotheses of every statement. -/

namespace Sys2Proof.Tests

-- Theorems elaborated one at a time: kernel evaluations that wait on each other would each hold a thread's stack.
set_option Elab.async false

open Sys2Proof Sys2Proof.Machine

/-! ### Small states -/

/-- The next state of a command. -/
def run (c : Instr) (s : State) : Option State :=
  match exec c s with
  | .next t => some t
  | .fault _ | .refused _ => none

/-- One item of a command's next state. -/
def seen {α : Type} (c : Instr) (s : State) (f : State → α) : Option α := (run c s).map f

/-- The station's own link address in the tests. -/
def ownAddr : LinkAddr := 0x0200000000AA

/-- Another station's link address. -/
def otherAddr : LinkAddr := 0x0200000000BB

/-- A frame of 60 bytes: destination, source, ethertype, then its own bytes and zero padding. -/
def frameOf (dest src : LinkAddr) (type : BitVec 16) (body : List Byte) : Frame :=
  bytesOfBits 6 dest ++ bytesOfBits 6 src ++ bytesOfBits 2 type ++ body ++ List.replicate (46 - body.length) 0

/-- A part in IDLE with a station address and its notices read. -/
def idle : State := { State.reset with station := { Station.default with ownAddr := ownAddr }, readyPending := false }

/-- A part in PROXY on an attached network, with an empty profile but for the station address. -/
def proxying : State :=
  { idle with
    proxy := .proxy, owner := .part, linkState := .up, net := .attached,
    windowTimer := some 100, decayTimer := some 1000 }

/-- A part in WAKING: lane 1 is the reason, the patience timer runs. -/
def waking : State :=
  { proxying with
    proxy := .waking, wake := true, reasons := 2, firstReason := some { reason := 1, time := 0 },
    patienceTimer := some 30000 }

/-- An entry of the Transmit Queue that a rule's answer makes. -/
def answerEntry (inFlight : Bool) : TxEntry :=
  { origin := .rule 0, cls := .essential, frame := List.replicate 60 0, inFlight := inFlight }

/-- A part in HANDBACK with an answer in flight. -/
def handingBack : State :=
  { proxying with
    proxy := .handback, queue := [answerEntry true], windowTimer := none, decayTimer := none, hostInitiated := true,
    reclaimState := .proxy, reclaimTime := 0 }

/-- The report of a Reclaim out of PROXY. -/
def someReport : WakeReport := { assembleReport handingBack with proxyAtReclaim := .proxy }

/-- A part in REPORT. -/
def reporting : State :=
  { proxying with
    proxy := .report, owner := .host, windowTimer := none, decayTimer := none, hostInitiated := true,
    report := some someReport }

/-- A request with no body. -/
def bare (tag : Byte) : Request := requestOf tag []

/-- A pattern whose one item compares the ethertype. -/
def typePattern (hi lo : Byte) : Pattern :=
  { items := [{ offset := 12, bytes := [(hi, 0xFF), (lo, 0xFF)] }], echo := none }

/-- The profile of the tests' duty: a reply and a reject pattern, 3 startup and 2 run tries, rounds limit 2. -/
def dutyProfile : DutyProfile where
  template := 0
  patchList := none
  firstDelay := 1
  interval := 60
  repeatCount := 65535
  reply := some (typePattern 0x88 0xB5)
  reject := some (typePattern 0x88 0xB6)
  replyWindow := 1000
  startupTries := 3
  runTries := 2
  backoffBase := 10
  backoffMul := 4
  roundsLimit := 2
  failure := .wake 1 500
  capture := none
  counterInit := 7
  counterInc := 2

/-- A duty's run-time state in a state, with a timer. -/
def runIn (st : DutyState) (timer : Timer) : DutyRun where
  state := st
  pending := none
  void := false
  firstRun := false
  triesAllowed := 2
  triesUsed := 0
  failedRounds := 0
  runsCompleted := 0
  counter := 7
  capturedInterval := none
  lastCapture := none
  lastOutcome := .none
  timer := timer

/-- A state with a duty at an id. -/
def withDuty (d : Fin 12) (p : DutyProfile) (r : DutyRun) (s : State) : State :=
  { s with
    pool := [(0, List.replicate 14 0x11)]
    duties := s.duties.set d { probe := (s.duties[d]).probe, duty := some { profile := p, run := r } } }

/-- The one thing a state's duty at an id is seen by. -/
def dutyAt {α : Type} (d : Fin 12) (f : DutyRun → α) (s : State) : Option α := ((s.duties[d]).duty).map fun u => f u.run

/-- An entry of the Address Table in a state. -/
def entryIn (v : NetAddr) (st : EntryState) : AddrEntry where
  value := v
  loaded := .defended
  mode := .answer
  tentativeTime := 1
  state := st
  conflicts := 0
  lastClaimant := none
  tentativeTimer := none
  contestTimer := none

/-- A rule that takes any frame sent to the station itself. -/
def ownRule (a : Action) : Rule := { Rule.free with inUse := true, destOwn := true, action := a, lane := 2, weight := 5 }

/-- A state with a rule at index 3. -/
def withRule (r : Rule) (s : State) : State := { s with rules := s.rules.set 3 r, pool := [(0, List.replicate 14 0x11)] }

/-! ### Well-formedness: each check refuses an ill-formed command -/

/-- A READ code is no other transaction (R188). -/
theorem test_wf_other_transaction : (Instr.otherTransaction [2, 0]).wellFormed = false := by decide +kernel

/-- A header with its whole body is not cut short (R189). -/
theorem test_wf_cut_short : (Instr.cutShortMessage [1, 0, 0, 1, 9]).wellFormed = false := by decide +kernel

/-- Kind 0x13 is in the catalogue (11.4). -/
theorem test_wf_unknown_kind : (Instr.unknownKindRequest 0x13 (bare 0)).wellFormed = false := by decide +kernel

/-- A request whose body is shorter than stated is no complete request (R189). -/
theorem test_wf_request : (Instr.setStation { tag := 0, stated := 22, body := [1] }).wellFormed = false := by decide +kernel

/-- A record's two-byte length cannot say 65,536 (R200). -/
theorem test_wf_frame (f : Frame) (h : f.length = 65536) : (Instr.receivedFrame f).wellFormed = false :=
  decide_eq_false (by omega)

/-- A link-state record with the code of UP is no bad record (R201). -/
theorem test_wf_bad_record : (Instr.badRecord [4, 1]).wellFormed = false := by decide +kernel

/-- Each kind of command has well-formed terms. -/
theorem test_wf_good :
    (Instr.otherTransaction [7]).wellFormed && (Instr.otherTransaction []).wellFormed &&
      (Instr.cutShortMessage [1, 0, 0]).wellFormed && (Instr.cutShortMessage [1, 0, 0, 2, 9]).wellFormed &&
      (Instr.unknownKindRequest 0x14 (bare 0)).wellFormed && (Instr.setStation (bare 0)).wellFormed &&
      (Instr.receivedFrame []).wellFormed && (Instr.badRecord [3, 2]).wellFormed && (Instr.badRecord [2]).wellFormed = true := by
  decide +kernel

/-! ### Bytes at the two ports, written out from R188, R189 and R200 -/

/-- A WRITE of Query Status with tag 0x11 and an empty body. -/
theorem test_decode_query_status : linkTransaction [0x01, 0x12, 0x11, 0x00, 0x00] = .queryStatus (bare 0x11) := by decide +kernel

/-- A WRITE of Put Group with tag 5: index 2, in use, address 01:00:5E:00:00:FB, match length 6. -/
theorem test_decode_put_group :
    linkTransaction [0x01, 0x03, 0x05, 0x00, 0x09, 0x02, 0x01, 0x01, 0x00, 0x5E, 0x00, 0x00, 0xFB, 0x06] =
      .putGroup (requestOf 5 (groupBody 2 { inUse := true, addr := 0x01005E0000FB, matchLen := 6 })) := by decide +kernel

/-- A READ with three bytes clocked out; a WRITE cut short in its header; a transaction of another code; one with none. -/
theorem test_decode_other_transactions :
    linkTransaction [0x02, 0, 0, 0] = .read 3 ∧ linkTransaction [0x01, 0x12, 0x11] = .cutShortMessage [0x12, 0x11] ∧
      linkTransaction [0x03, 9] = .otherTransaction [0x03, 9] ∧ linkTransaction [] = .otherTransaction [] := by decide +kernel

/-- A WRITE whose stated length is 1,601 is complete whatever its body (R189). -/
theorem test_decode_bad_length :
    linkTransaction [0x01, 0x12, 0x11, 0x06, 0x41] = .queryStatus { tag := 0x11, stated := 1601, body := [] } := by decide +kernel

/-- The records of the network controller. -/
theorem test_decode_records :
    portRecord [0x01, 0x00, 0x02, 0xAA, 0xBB] = some (.receivedFrame [0xAA, 0xBB]) ∧
      portRecord [0x03, 0x00] = some (.transmitResult .sent) ∧ portRecord [0x03, 0x01] = some (.transmitResult .refused) ∧
      portRecord [0x04, 0x01] = some (.linkState .up) ∧ portRecord [0x04, 0x02] = some (.linkState .down) ∧
      portRecord [0x04, 0x00] = some (.badRecord [0x04, 0x00]) ∧ portRecord [0x05, 0x00] = some (.badRecord [0x05, 0x00]) := by
  decide +kernel

/-- The Put Rule body of 23 bytes and one compare item, by the offsets of its table. -/
theorem test_layout_rule :
    ruleBody 9
        { Rule.free with
          inUse := true, destOwn := true, destBroadcast := true, groups := 0x81, ethertype := some 0x0806,
          items := [{ offset := 20, bytes := [(0x00, 0xFF), (0x01, 0x0F)] }],
          addrRef := some { offset := 38, kind := .short }, action := .claim, claimantOffset := 22, cls := .ordinary,
          template := some 47, patchList := some 31, lane := 7, weight := 258 } =
      [9, 1, 3, 0x81, 1, 0x08, 0x06, 1, 0, 38, 1, 3, 0, 22, 1, 1, 47, 1, 31, 7, 1, 2, 1, 0, 20, 2, 0x00, 0x01, 0xFF, 0x0F] := by
  decide +kernel

/-- A SUM16 patch record, 16 bytes. -/
theorem test_layout_sum16 :
    patchBody (.sum16 14 1514 24 .short 26 30 17 true) =
      [7, 0, 14, 0x05, 0xEA, 0, 24, 1, 0, 26, 0, 30, 17, 1, 0, 0] := by decide +kernel

/-- The Put Duty body of 59 bytes and the items of its two patterns. -/
theorem test_layout_duty :
    dutyBody 11
        { dutyProfile with patchList := some 4, capture := some { offset := 40, width := 2, target := .interval 128 30 3600 } } =
      [11, 1, 0, 1, 4, 0, 0, 0, 1, 0, 0, 0, 60, 0xFF, 0xFF, 0x03, 0xE8, 3, 2, 0, 10, 4, 2, 0, 1, 0x01, 0xF4,
       1, 0, 40, 2, 0, 0, 128, 0, 0, 0, 30, 0, 0, 0x0E, 0x10, 0, 0, 0, 7, 2, 1, 1, 0, 0, 0, 0, 1, 1, 0, 0, 0, 0,
       0, 12, 2, 0x88, 0xB5, 0xFF, 0xFF, 0, 12, 2, 0x88, 0xB6, 0xFF, 0xFF] := by decide +kernel

/-- The table gives no row bits, so no word spells a command. -/
theorem test_decode_table_word : decodeTableWord 8 0 = none := rfl

/-! ### One or two small tests a command -/

/-- R19, R20: the budget is the default P0 and an OWNER HOST record is sent. -/
theorem test_power_on :
    seen .powerOn waking (fun t => (t.proxy, t.budget, t.wake, t.portOut)) =
      some (.idle, 32, false, waking.portOut ++ [.owner .host]) := by decide +kernel

/-- R192: a reset makes the notice set READY alone. -/
theorem test_reset_pin :
    seen .resetPin { reporting with handbackDonePending := true } (fun t => (t.readyPending, t.handbackDonePending, t.attn)) =
      some (true, false, true) := by decide +kernel

/-- R188: a transaction of another code changes nothing. -/
theorem test_other_transaction : run (.otherTransaction [5, 1]) waking = some waking := by decide +kernel

/-- R189: a message cut short is discarded. -/
theorem test_cut_short_message : run (.cutShortMessage [0x12]) waking = some waking := by decide +kernel

/-- R196: an unknown kind is echoed with BAD_KIND and no body. -/
theorem test_unknown_kind :
    seen (.unknownKindRequest 0xEE (bare 4)) idle (fun t => t.reply.map Reply.encode) =
      some (some [0x80, 0xEE, 4, 7, 0, 0, 0]) := by decide +kernel

/-- R193, the worked sequence: a READ stopped after 5 bytes delivers nothing. -/
theorem test_read_cut :
    seen (.read 5) State.reset (fun t => (t.readyPending, t.linkOut)) = some (true, [[0x81, 0, 0, 0, 0]]) := by decide +kernel

/-- R193: a whole READ delivers READY, then zero bytes; ATTN falls (R194). -/
theorem test_read_whole :
    seen (.read 8) State.reset (fun t => (t.readyPending, t.attn, t.linkOut)) =
      some (false, false, [[0x81, 0, 0, 0, 0, 0, 0, 0]]) := by decide +kernel

/-- R4, R195, the worked sequence: a settle hold of 6,000 ms is stored as 5,000, and the reply says CLAMPED. -/
theorem test_set_station :
    seen (.setStation (requestOf 0x13
        [2, 0, 0, 0, 0, 0xAA, 0, 0, 0, 0x17, 0x70, 10, 3, 0xFF, 0xFF, 0, 30, 1, 0, 0, 0, 0])) idle
        (fun t => (t.station.settleHold, t.station.vlan, t.reply.map Reply.encode)) =
      some (5000, none, some [0x80, 0x01, 0x13, 0, 1, 0, 0]) := by decide +kernel

/-- R47: a SHORT entry 192.0.2.1, TENTATIVE, in mode OBSERVE, tentative time 0 clamped to 1. -/
theorem test_put_address :
    seen (.putAddress (requestOf 1 [3, 1, 0, 1, 0, 192, 0, 2, 1])) idle
        (fun t => (t.entries[(3 : Fin 16)], t.reply.map Reply.clamped)) =
      some (some { entryIn (.short 0xC0000201) .tentative with loaded := .tentative, mode := .observe }, some true) := by decide +kernel

/-- R47: a value another entry holds is DUPLICATE. -/
theorem test_put_address_duplicate :
    seen (.putAddress (requestOf 1 [3, 1, 1, 0, 1, 192, 0, 2, 1]))
        { idle with entries := idle.entries.set 0 (some (entryIn (.short 0xC0000201) .defended)) }
        (fun t => ((t.entries[(3 : Fin 16)]).isSome, t.reply.map Reply.status)) = some (false, some .duplicate) := by decide +kernel

/-- R26: a match length of 7 is clamped to 6. -/
theorem test_put_group :
    seen (.putGroup (requestOf 1 [7, 1, 1, 0, 0x5E, 0, 0, 0xFB, 7])) idle
        (fun t => (t.groups[(7 : Fin 8)], t.reply.map Reply.clamped)) =
      some ({ inUse := true, addr := 0x01005E0000FB, matchLen := 6 }, some true) := by decide +kernel

/-- R26: index 8 is out of the table's range. -/
theorem test_put_group_index :
    seen (.putGroup (requestOf 1 [8, 1, 1, 0, 0x5E, 0, 0, 0xFB, 6])) idle (fun t => (t.groups, t.reply.map Reply.status)) =
      some (idle.groups, some .badIndex) := by decide +kernel

/-- R32: a HOLD rule on broadcast frames of ethertype 0x0800, lane 2, weight 5. -/
theorem test_put_rule :
    seen (.putRule (requestOf 1 [31, 1, 2, 0, 1, 8, 0, 0, 0, 0, 0, 1, 0, 0, 0, 0, 0, 0, 0, 2, 0, 5, 0])) idle
        (fun t => t.rules[(31 : Fin 32)]) =
      some { Rule.free with
        inUse := true, destBroadcast := true, ethertype := some 0x0800, action := .hold, lane := 2, weight := 5 } := by
  decide +kernel

/-- R32: a CLAIM rule without an address reference is BAD_VALUE. -/
theorem test_put_rule_claim :
    seen (.putRule (requestOf 1 [31, 1, 2, 0, 1, 8, 0, 0, 0, 0, 0, 3, 0, 0, 0, 0, 0, 0, 0, 2, 0, 5, 0])) idle
        (fun t => t.reply.map Reply.status) = some (some .badValue) := by decide +kernel

/-- R66: a template of 14 bytes leaves 8,178 bytes free. -/
theorem test_put_template :
    seen (.putTemplate (requestOf 1 (47 :: List.replicate 14 9))) idle
        (fun t => (t.pool, t.reply.map fun r => (r.status, r.body))) =
      some ([(47, List.replicate 14 9)], some (.ok, [0x1F, 0xF2])) := by decide +kernel

/-- R66: a loaded id is DUPLICATE, with the free bytes. -/
theorem test_put_template_duplicate :
    seen (.putTemplate (requestOf 1 (0 :: List.replicate 15 9))) (withRule Rule.free idle)
        (fun t => t.reply.map fun r => (r.status, r.body)) = some (some (.duplicate, [0x1F, 0xF2])) := by decide +kernel

/-- R68, R69: an OWN_LINK patch at 6 and a COUNTER patch of width 9, clamped to 4. -/
theorem test_put_patch_list :
    seen (.putPatchList (requestOf 1
        ([5, 1, 2] ++ [2, 0, 6, 0, 0, 0, 0, 0, 0, 0, 0, 0, 0, 0, 0, 0] ++ [5, 0, 20, 9, 0, 0, 0, 0, 0, 0, 0, 0, 0, 0, 0, 0]))) idle
        (fun t => (t.patchLists[(5 : Fin 32)], t.reply.map Reply.clamped)) =
      some (some [.ownLink 6, .counter 20 4], some true) := by decide +kernel

/-- R69: a SUM16 whose start lies above its end is BAD_VALUE. -/
theorem test_put_patch_list_range :
    seen (.putPatchList (requestOf 1 ([5, 1, 1] ++ [7, 0, 20, 0, 10, 0, 12, 0, 0, 0, 0, 0, 0, 0, 0, 0]))) idle
        (fun t => t.reply.map Reply.status) = some (some .badValue) := by decide +kernel

/-- R103 to R105: a duty is WAITING in its first run with its counter at the initial value. -/
theorem test_put_duty :
    seen (.putDuty (requestOf 1 (dutyBody 11 dutyProfile))) idle
        (fun t => dutyAt 11 (fun r => (r.state, r.firstRun, r.counter, r.timer)) t) =
      some (some (.waiting, true, 7, none)) := by decide +kernel

/-- R104: a reject pattern without a reply pattern is BAD_VALUE. -/
theorem test_put_duty_reject :
    seen (.putDuty (requestOf 1 (dutyBody 11 { dutyProfile with reply := none }))) idle
        (fun t => t.reply.map Reply.status) = some (some .badValue) := by decide +kernel

/-- R163: lane 7 in STEP mode; shift 20 clamped to 16. -/
theorem test_set_lanes :
    seen (.setLanes (requestOf 1 (List.replicate 42 0 ++ [0x01, 0x00, 1, 20, 0, 9]))) idle
        (fun t => (t.laneSettings[(7 : Fin 8)], t.reply.map Reply.clamped)) =
      some ({ threshold := 256, mode := .step, shift := 16, step := 9 }, some true) := by decide +kernel

/-- R150: the budget is set to the new P0 and the reply carries it. -/
theorem test_set_curve :
    seen (.setCurve (requestOf 1 [40, 40, 40, 40, 40, 40, 40, 40, 4, 8, 0, 0, 0, 0, 0])) idle
        (fun t => (t.budget, t.reply.map Reply.body)) = some (40, some [40]) := by decide +kernel

/-- R136: the probe flag moves to the named duty. -/
theorem test_set_signature :
    seen (.setSignature (requestOf 1 [1, 2, 0, 0, 0, 0, 0xBB, 4, 1, 0, 9])) idle
        (fun t => (t.signature, (t.duties[(4 : Fin 12)]).probe)) =
      some (some { gateway := otherAddr, probeDuty := 4, lane := 1, weight := 9 }, true) := by decide +kernel

/-- R17, R20: the station record returns to its defaults. -/
theorem test_clear_profile :
    seen (.clearProfile (bare 1)) idle (fun t => (t.station, t.reply.map Reply.status)) =
      some (Station.default, some .ok) := by decide +kernel

/-- R7: the part proxies, with OWNER PART sent and the network state in the reply. -/
theorem test_assume :
    seen (.assume (bare 1)) { idle with linkState := .up }
        (fun t => (t.proxy, t.net, t.portOut, t.reply.map Reply.body)) =
      some (.proxy, .attached, idle.portOut ++ [.owner .part], some [0]) := by decide +kernel

/-- R5: a station address of zero is the first fault, STATION 0. -/
theorem test_assume_station :
    seen (.assume (bare 1)) State.reset (fun t => (t.proxy, t.reply.map fun r => (r.status, r.body))) =
      some (.idle, some (.reference, [0, 0])) := by decide +kernel

/-- R10, R13: with nothing in flight handback completes within the Reclaim; the reply and the notice wait together. -/
theorem test_reclaim :
    seen (.reclaim (bare 0x40)) proxying
        (fun t => (t.proxy, t.owner, t.handbackDonePending, t.report.map fun r => (r.proxyAtReclaim, r.hostInitiated))) =
      some (.report, .host, true, some (.proxy, true)) := by decide +kernel

/-- R10: with a frame in flight the part is in HANDBACK, and WAKE is deasserted. -/
theorem test_reclaim_in_flight :
    seen (.reclaim (bare 0x40)) { waking with queue := [answerEntry true, answerEntry false] }
        (fun t => (t.proxy, t.wake, t.queue.length, t.stats.linkDrop, t.hostInitiated)) =
      some (.handback, false, 1, 1, false) := by decide +kernel

/-- R183, R197: the report is 646 bytes, the proxy state at Reclaim first, the host-initiated flag second. -/
theorem test_read_report :
    seen (.readReport (bare 1)) reporting (fun t => t.reply.map fun r => (r.body.length, r.body.take 2)) =
      some (some (646, [1, 1])) := by decide +kernel

/-- R183: Read Report is refused outside REPORT. -/
theorem test_read_report_state :
    seen (.readReport (bare 1)) proxying (fun t => t.reply.map Reply.status) = some (some .wrongState) := by decide +kernel

/-- R181: the record at the head is removed and carried by the reply. -/
theorem test_fetch_held :
    seen (.fetchHeld (bare 1)) { reporting with held := [{ time := 0x0102, rule := 9, frame := [0xAA, 0xBB] }] }
        (fun t => (t.held, t.reply.map Reply.body)) =
      some ([], some [0, 0, 1, 2, 9, 0, 0, 2, 0xAA, 0xBB]) := by decide +kernel

/-- R181: with no record left the status is EMPTY. -/
theorem test_fetch_held_empty :
    seen (.fetchHeld (bare 1)) reporting (fun t => t.reply.map Reply.encode) =
      some (some [0x80, 0x0F, 1, 9, 0, 0, 0]) := by decide +kernel

/-- R15: the profile stays, the report goes, the network state is LINK_DOWN. -/
theorem test_rearm :
    seen (.rearm (bare 1)) reporting (fun t => (t.proxy, t.station, t.report.isSome, t.net)) =
      some (.idle, reporting.station, false, .linkDown) := by decide +kernel

/-- R16: the profile goes. -/
theorem test_detach :
    seen (.detach (bare 1)) reporting (fun t => (t.proxy, t.station, t.report.isSome)) =
      some (.idle, Station.default, false) := by decide +kernel

/-- R198: in WAKING with lane 1 at 0x0123 and 7 ms elapsed. -/
theorem test_query_status :
    seen (.queryStatus (bare 1)) { waking with elapsed := 7, lanes := waking.lanes.set 1 0x0123 }
        (fun t => t.reply.map Reply.body) =
      some (some [2, 0, 1, 0, 0, 0, 7, 0, 0, 1, 0x23, 0, 0, 0, 0, 0, 0, 0, 0, 0, 0, 0, 0, 32, 0, 0, 0, 0, 0]) := by decide +kernel

/-- R199: Reset Part resets the part and makes no reply. -/
theorem test_reset_part :
    seen (.resetPart (bare 1)) proxying (fun t => (t.proxy, t.reply, t.readyPending)) = some (.idle, none, true) := by
  decide +kernel

/-- R199: over an unread reply it is dropped. -/
theorem test_reset_part_dropped :
    seen (.resetPart (bare 1)) { proxying with reply := some (okReply 0x12 9 []) }
        (fun t => (t.proxy, t.reply.map Reply.dropped)) = some (.proxy, some true) := by decide +kernel

/-- R40, R86: an ANSWER rule's answer is built, padded to 60 bytes, and sent at once; the rule's weight is added (R37). -/
theorem test_received_frame_answer :
    seen (.receivedFrame (frameOf ownAddr otherAddr 0x0800 [])) (withRule { ownRule .answer with template := some 0 } proxying)
        (fun t => (t.portOut.drop 1, t.matchCounts[(3 : Fin 32)], t.lanes[(2 : Fin 8)])) =
      some ([.frameToSend (List.replicate 14 0x11 ++ List.replicate 46 0)], 1, 5) := by decide +kernel

/-- R23: a frame of 13 bytes is malformed. -/
theorem test_received_frame_short :
    seen (.receivedFrame (List.replicate 13 0)) proxying (fun t => (t.stats.received, t.stats.malformed)) = some (1, 1) := by
  decide +kernel

/-- R91, R95: a sent answer is counted and leaves the queue; the next frame goes out (R86). -/
theorem test_transmit_result :
    seen (.transmitResult .sent) { proxying with queue := [answerEntry true, answerEntry false] }
        (fun t => (t.stats.answersSent, t.queue, t.portOut.length)) = some (1, [answerEntry true], 2) := by decide +kernel

/-- R92: a result with nothing in flight is ignored. -/
theorem test_transmit_result_ignored : run (.transmitResult .refused) proxying = some proxying := by decide +kernel

/-- R90: a BLOCKED duty takes the free place. -/
theorem test_blocked_duty_admit :
    seen .blockedDutyAdmit (withDuty 5 dutyProfile (runIn .blocked none) { proxying with queue := [answerEntry true] })
        (fun t => (dutyAt 5 DutyRun.state t, t.queue.map TxEntry.origin)) =
      some (some .queued, [.rule 0, .duty 5]) := by decide +kernel

/-- R86, R98: the oldest entry goes in flight. -/
theorem test_frame_to_send :
    seen .frameToSend { proxying with queue := [answerEntry false] } (fun t => (t.queue, t.portOut.drop 1)) =
      some ([answerEntry true], [.frameToSend (List.replicate 60 0)]) := by decide +kernel

/-- R13: with nothing in flight the report is assembled and OWNER HOST sent. -/
theorem test_handback_complete :
    seen .handbackComplete { handingBack with queue := [], elapsed := 9 }
        (fun t => (t.proxy, t.report.map WakeReport.completionTime, t.portOut.drop 1, t.attn)) =
      some (.report, some 9, [.owner .host], true) := by decide +kernel

/-- R93, R138: link down removes the waiting answers and counts them. -/
theorem test_link_state_down :
    seen (.linkState .down) { proxying with queue := [answerEntry true, answerEntry false] }
        (fun t => (t.net, t.queue, t.stats.linkDrop)) = some (.linkDown, [answerEntry true], 1) := by decide +kernel

/-- R139: link up from LINK_DOWN without a signature attaches. -/
theorem test_link_state_up :
    seen (.linkState .up) { proxying with linkState := .down, net := .linkDown } (fun t => (t.net, t.linkState)) =
      some (.attached, .up) := by decide +kernel

/-- R201: a bad record changes nothing. -/
theorem test_bad_record : run (.badRecord [9, 9]) waking = some waking := by decide +kernel

/-- R128: a DEFERRED duty with pending step TRY makes it, and its frame goes out. -/
theorem test_deferred_resume :
    seen .deferredResume (withDuty 2 dutyProfile { runIn .deferred none with pending := some .try_ } proxying)
        (fun t => (dutyAt 2 (fun r => (r.state, r.pending, r.counter)) t, t.queue.map TxEntry.inFlight)) =
      some (some (.queued, none, 7), [true]) := by decide +kernel

/-- R50: a TENTATIVE entry becomes DEFENDED. -/
theorem test_tentative_expiry :
    seen (.tentativeExpiry 4) { proxying with
        entries := proxying.entries.set 4 (some { entryIn (.short 1) .tentative with tentativeTimer := some 1 }) }
        (fun t => (t.entries[(4 : Fin 16)]).map AddrEntry.state) = some (some .defended) := by decide +kernel

/-- R52: a CONTESTED entry becomes DEFENDED and keeps its conflict count. -/
theorem test_contest_expiry :
    seen (.contestExpiry 4) { proxying with
        entries := proxying.entries.set 4 (some { entryIn (.short 1) .contested with contestTimer := some 1, conflicts := 3 }) }
        (fun t => (t.entries[(4 : Fin 16)]).map fun e => (e.state, e.conflicts)) = some (some (.defended, 3)) := by decide +kernel

/-- R107, R108: a new run moves the counter by the increment and allows the run tries. -/
theorem test_duty_timer_expiry :
    seen (.dutyTimerExpiry 0) (withDuty 0 dutyProfile (runIn .waiting (some 5)) proxying)
        (fun t => dutyAt 0 (fun r => (r.state, r.counter, r.triesAllowed)) t) = some (some (.queued, 9, 2)) := by decide +kernel

/-- R115, R116: the second of two tries fails, and the duty backs off for 10 s times 6. -/
theorem test_reply_window_expiry :
    seen (.replyWindowExpiry 0) (withDuty 0 dutyProfile { runIn .awaiting (some 5) with triesUsed := 1 } proxying)
        (fun t => dutyAt 0 (fun r => (r.state, r.failedRounds, r.timer)) t) = some (some (.backoff, 1, some 60000)) := by decide +kernel

/-- R117: a backoff's end makes a try with tries used 0. -/
theorem test_backoff_expiry :
    seen (.backoffExpiry 0) (withDuty 0 dutyProfile { runIn .backoff (some 5) with triesUsed := 2 } proxying)
        (fun t => dutyAt 0 (fun r => (r.state, r.triesUsed, r.counter)) t) = some (some (.queued, 0, 7)) := by decide +kernel

/-- R153, R154: a count of 48 on a curve from 32 down to 16 between its points 1 and 2 gives the target 24, taken at once. -/
theorem test_load_window_expiry :
    seen .loadWindowExpiry
        { proxying with windowCount := 48, spent := 9, curve := { Curve.default with points := Curve.default.points.set 2 16 } }
        (fun t => (t.budget, t.spent, t.windowCount)) = some (24, 0, 0) := by decide +kernel

/-- R154: up by the ramp step of 8. -/
theorem test_load_window_expiry_up :
    seen .loadWindowExpiry { proxying with budget := 4 } (fun t => (t.budget, t.windowTimer)) = some (12, some 100) := by decide +kernel

/-- R166, R167: a shift of 1 halves a lane. -/
theorem test_decay_period_expiry :
    seen .decayPeriodExpiry { proxying with
        lanes := proxying.lanes.set 0 101,
        laneSettings := proxying.laneSettings.set 0 { threshold := 0, mode := .shift, shift := 1, step := 0 } }
        (fun t => t.lanes[(0 : Fin 8)]) = some 50 := by decide +kernel

/-- R168, R171: a lane at its threshold wakes the part at the end of the hold. -/
theorem test_settle_hold_expiry :
    seen .settleHoldExpiry { proxying with
        settleTimer := some 1, lanes := proxying.lanes.set 6 10,
        laneSettings := proxying.laneSettings.set 6 { threshold := 10, mode := .shift, shift := 0, step := 0 } }
        (fun t => (t.proxy, t.wake, t.reasons, t.patienceTimer)) = some (.waking, true, 64, some 30000) := by decide +kernel

/-- R173: patience deasserts WAKE for a gap of 100 ms. -/
theorem test_patience_expiry :
    seen .patienceExpiry waking (fun t => (t.wake, t.gapTimer, t.resignals)) = some (false, some 100, 0) := by decide +kernel

/-- R173: the third re-signal is the last. -/
theorem test_gap_expiry :
    seen .gapExpiry { waking with wake := false, patienceTimer := none, gapTimer := some 1, resignals := 2 }
        (fun t => (t.wake, t.resignals, t.patienceTimer)) = some (true, 3, none) := by decide +kernel

/-- R2: elapsed time counts, and stops at 4,294,967,295. -/
theorem test_elapsed_time_advance :
    seen .elapsedTimeAdvance { proxying with elapsed := 4294967295 } (fun t => (t.elapsed, t.windowTimer)) =
      some (4294967295, some 99) := by decide +kernel

/-- R79: the checksum of 45 00 00 1C over an empty store field is complemented. -/
theorem test_sum16 :
    applyPatch proxying { request := [], matched := none, counter := 0 } [0x45, 0x00, 0x00, 0x1C, 0xFF, 0xFF]
        (.sum16 0 6 4 .none 0 0 0 false) = [0x45, 0x00, 0x00, 0x1C, 0xBA, 0xE3] := by decide +kernel

/-! ### Witnesses: states and operands that meet the hypotheses of each statement

A witness theorem is named after its statement; one with several clauses names the clause. -/

/-- The rule of the working state: an ANSWER rule on own IP frames for the address of entry 0. -/
def workingRule : Rule where
  inUse := true
  destOwn := true
  destBroadcast := false
  groups := 1
  ethertype := some 0x0800
  items := [{ offset := 1513, bytes := List.replicate 8 (0, 0) }]
  addrRef := some { offset := 30, kind := .short }
  action := .answer
  claimantOffset := 22
  cls := .ordinary
  template := some 0
  patchList := some 1
  lane := 7
  weight := 65535

/-- A part in PROXY at work: a rule, an entry, a group, a patch list, an AWAITING duty, a frame in flight, a held frame. -/
def working : State :=
  { proxying with
    entries := proxying.entries.set 0 (some (entryIn (.short 0xC0000201) .defended))
    groups := proxying.groups.set 0 { inUse := true, addr := 0x01005E0000FB, matchLen := 6 }
    rules := proxying.rules.set 3 workingRule
    pool := [(0, List.replicate 14 0x11)]
    patchLists := proxying.patchLists.set 1 (some [.ownLink 6])
    duties := proxying.duties.set 5 { probe := false, duty := some { profile := dutyProfile, run := runIn .awaiting (some 400) } }
    queue := [answerEntry true, { answerEntry false with cls := .ordinary }]
    spent := 1
    held := [{ time := 3, rule := 3, frame := List.replicate 60 0 }]
    elapsed := 8
    windowCount := 2
    stats := { Stats.zero with received := 9, malformed := 1 }
    pending := [.elapsedTimeAdvance] }

/-- Compare items in range, from the plain numbers. -/
theorem itemsInRange {l : List CompareItem}
    (h : l.length ≤ 4 ∧ ∀ c ∈ l, c.offset ≤ 1513 ∧ 1 ≤ c.bytes.length ∧ c.bytes.length ≤ 8) :
    l.length ≤ 4 ∧ ∀ c ∈ l, c.InRange :=
  ⟨h.1, fun c hc => ⟨(h.2 c hc).1, (h.2 c hc).2⟩⟩

/-- A pattern on the ethertype is in range. -/
theorem typePattern_inRange (hi lo : Byte) : (typePattern hi lo).InRange :=
  ⟨itemsInRange (by simp [typePattern]), by simp [typePattern]⟩

/-- The tests' duty profile is in range. -/
theorem dutyProfile_inRange : dutyProfile.InRange where
  firstDelay := by decide
  interval := by decide
  repeatCount := by decide
  reply := fun q h => by cases h; exact typePattern_inRange _ _
  reject := fun q h => by cases h; exact typePattern_inRange _ _
  replyWindow := by decide
  startupTries := by decide
  runTries := by decide
  backoffBase := by decide
  roundsLimit := by decide
  weight := fun lane w h => by cases h; decide
  capture := nofun
  needs_reply := by decide

/-- The working state's profile is in range. -/
theorem working_ranges : RangesInv working where
  station := by constructor <;> decide
  entries := by decide +kernel
  groups := by decide +kernel
  rules := fun i => ⟨itemsInRange (by revert i; decide +kernel), by revert i; decide +kernel, by revert i; decide +kernel,
    by revert i; decide +kernel, by revert i; decide +kernel⟩
  lists := fun i ps h => by
    have only : ∀ i : Fin 32, ∀ ps ∈ working.patchLists[i], ps = [.ownLink 6] := by decide +kernel
    simp [only i ps h, Patch.InRange]
  duties := fun d u h => by
    have only : ∀ d : Fin 12, ∀ u ∈ (working.duties[d]).duty, u.profile = dutyProfile := by decide +kernel
    rw [only d u h]
    exact dutyProfile_inRange
  lanes := fun j => ⟨by revert j; decide +kernel, by revert j; decide +kernel, by revert j; decide +kernel⟩
  curve := ⟨by decide +kernel, by decide, by decide, by decide⟩
  signature := nofun

/-- The working state satisfies every invariant. -/
theorem working_inv : Inv working where
  ranges := working_ranges
  pool := ⟨by decide +kernel, by decide +kernel, by decide +kernel⟩
  queue := ⟨by decide +kernel, by decide +kernel, by decide +kernel, by decide +kernel, nofun⟩
  dutyQueue := ⟨by decide +kernel, by decide +kernel, fun _ => by decide +kernel, nofun⟩
  blocked := fun _ => by decide +kernel
  duty :=
    { pending := by decide +kernel
      void := by decide +kernel
      tries := by decide +kernel
      tries_left := by decide +kernel
      rounds := by decide +kernel
      fresh_run := by decide +kernel
      at_rest := nofun
      timer := fun _ => by decide +kernel }
  entry := ⟨by decide +kernel, by decide +kernel, by decide +kernel, fun _ => by decide +kernel, nofun⟩
  timers := ⟨by decide +kernel, nofun, nofun, nofun⟩
  wake := by constructor <;> decide +kernel
  governor := ⟨by decide +kernel, by decide +kernel, by decide, by decide, by decide, by decide, nofun⟩
  held := by constructor <;> decide +kernel
  lifecycle := ⟨by decide, by decide, by decide, nofun, nofun, nofun⟩
  net := ⟨by decide +kernel, fun _ => by decide, fun _ _ => .inl rfl, nofun⟩
  stats :=
    { matches_le := by decide +kernel
      stats := by constructor <;> decide
      stages := by decide
      elapsed_le := by decide }
  reply := nofun

/-! #### The step, bytes, invariants, rules over all commands -/

theorem witness_Step_runs_the_front_command : working.pending ≠ [] ∧ proxying.pending = [] := by decide

theorem witness_Link_transactions_decode_to_their_commands :
    (Instr.setStation (requestOf 0 (List.replicate 22 1))).wellFormed = true ∧
      (Instr.setStation (requestOf 0 (List.replicate 22 1))).encodeLink = some (1 :: 1 :: 0 :: 0 :: 22 :: List.replicate 22 1) ∧
      (Instr.read 0).wellFormed = true ∧ (Instr.read 0).encodeLink = some [2] := by decide +kernel

theorem witness_Port_records_decode_to_their_commands :
    (Instr.receivedFrame []).wellFormed = true ∧ (Instr.receivedFrame []).encodePort = some [1, 0, 0] ∧
      (Instr.badRecord [3, 2]).wellFormed = true ∧ (Instr.badRecord [3, 2]).encodePort = some [3, 2] := by decide +kernel

/-- For the six statements on what every step keeps: a step from a working part. -/
theorem witness_Step_keeps : Inv working ∧ ∃ t, step working = .next t := ⟨working_inv, _, rfl⟩

theorem witness_Step_keeps_profile_ranges : Inv working ∧ ∃ t, step working = .next t := witness_Step_keeps
theorem witness_Step_keeps_the_transmit_queue : Inv working ∧ ∃ t, step working = .next t := witness_Step_keeps
theorem witness_Step_keeps_the_duties : Inv working ∧ ∃ t, step working = .next t := witness_Step_keeps
theorem witness_Step_keeps_the_address_table_and_the_wake_unit : Inv working ∧ ∃ t, step working = .next t :=
  witness_Step_keeps
theorem witness_Step_keeps_the_governor_held_frames_and_counts : Inv working ∧ ∃ t, step working = .next t :=
  witness_Step_keeps
theorem witness_Step_keeps_lifecycle_and_network : Inv working ∧ ∃ t, step working = .next t := witness_Step_keeps

/-- A Reclaim moves the working part. -/
theorem witness_Proxy_state_moves_along_the_table :
    Inv working ∧ ∃ t, exec (.reclaim (bare 0)) working = .next t ∧ working.proxy ≠ t.proxy :=
  ⟨working_inv, _, rfl, by decide +kernel⟩

/-- A transmit result lets the next frame out of the working part. -/
theorem witness_Frames_are_sent_one_at_a_time :
    Inv working ∧ ∃ t, exec (.transmitResult .sent) working = .next t ∧ t.portOut ≠ working.portOut :=
  ⟨working_inv, _, rfl, by decide +kernel⟩

theorem witness_Profile_changes_in_idle_alone :
    working.proxy ≠ .idle ∧ resetsPart (.rearm (bare 0)) = false ∧ (∀ m, Instr.rearm (bare 0) ≠ .detach m) ∧
      ∃ t, exec (.rearm (bare 0)) working = .next t :=
  ⟨by decide, rfl, nofun, _, rfl⟩

theorem witness_Handback_and_report_hold_still :
    (handingBack.proxy = .handback ∧ ∃ t, exec (.transmitResult .sent) handingBack = .next t ∧ t.proxy ≠ .idle) ∧
      reporting.proxy = .report ∧ ∃ t, exec (.queryStatus (bare 0)) reporting = .next t ∧ t.proxy ≠ .idle :=
  ⟨⟨rfl, _, rfl, by decide +kernel⟩, rfl, _, rfl, by decide +kernel⟩

/-! #### Resets and the Control Link -/

/-- A state whose reply slot holds an unread reply. -/
def unread : State := { proxying with reply := some (okReply 0x12 9 [1, 2]) }

/-- A request cut short. -/
def cutRequest : Request := { tag := 0, stated := 1600, body := List.replicate 3 0 }

theorem witness_Reset_Part_is_the_reset_by_request :
    proxying.reply = none ∧ unread.reply = some (okReply 0x12 9 [1, 2]) ∧ cutRequest.complete = false := by decide

theorem witness_Read_delivers_the_preferred_message :
    (unread.reply = some (okReply 0x12 9 [1, 2])) ∧
      (State.reset.reply = none ∧ State.reset.readyPending = true) ∧
      (let s := { reporting with handbackDonePending := true }
       s.reply = none ∧ s.readyPending = false ∧ s.handbackDonePending = true) ∧
      (proxying.reply = none ∧ proxying.readyPending = false ∧ proxying.handbackDonePending = false) := by decide +kernel

theorem witness_Dropped_discarded_and_ignored_events :
    ((bare 0).complete = true ∧ unread.reply = some (okReply 0x12 9 [1, 2])) ∧ cutRequest.complete = false := by decide

/-- Stated 1,601; a body longer than stated; an unknown kind; a kind the state refuses; a Set Station of 21 bytes. -/
theorem witness_Requests_are_examined_in_order :
    (let m : Request := { tag := 0, stated := 1601, body := [] }
     m.complete = true ∧ idle.reply = none ∧ 1600 < m.stated.toNat) ∧
      (let m : Request := { tag := 0, stated := 1, body := [1, 2] }
       m.complete = true ∧ m.stated.toNat < m.body.length) ∧
      (let m : Request := requestOf 0 (List.replicate 1600 0)
       m.complete = true ∧ m.stated.toNat ≤ 1600 ∧ m.stated.toNat = m.body.length ∧ inCatalogue 0 = false ∧
         inCatalogue 0x14 = false) ∧
      (inCatalogue 0x13 = true ∧ (0x0D : Byte).toNat ∉ acceptedKinds idle.proxy) ∧
      (let m : Request := requestOf 0 (List.replicate 21 0)
       inCatalogue 1 = true ∧ (1 : Byte).toNat ∈ acceptedKinds idle.proxy ∧ bodySize (1 : Byte).toNat = some 22 ∧
         m.body.length ≠ 22) := by decide +kernel

theorem witness_Query_Status_reports_the_part_as_it_stands : working.reply = none := by decide

/-- A report with places not in use, and one with an entry and a duty in use. -/
theorem witness_Read_Report_returns_the_whole_report :
    (reporting.proxy = .report ∧ reporting.report = some someReport ∧ reporting.reply = none ∧
        someReport.entries[(15 : Fin 16)] = none ∧ someReport.duties[(11 : Fin 12)] = none) ∧
      (let r := assembleReport working
       (r.entries[(0 : Fin 16)]).isSome = true ∧ (r.duties[(5 : Fin 12)]).isSome = true) := by decide +kernel

theorem witness_Fetch_Held_takes_the_oldest_record :
    (let s := { reporting with held := working.held }
     s.proxy = .report ∧ s.reply = none ∧ s.held = [{ time := 3, rule := 3, frame := List.replicate 60 0 }]) ∧
      (reporting.proxy = .report ∧ reporting.reply = none ∧ reporting.held = []) ∧
      (proxying.proxy ≠ .report ∧ proxying.reply = none) ∧ unread.reply = some (okReply 0x12 9 [1, 2]) := by decide +kernel

/-! #### The profile -/

theorem witness_Set_Station_stores_the_clamped_record :
    idle.proxy = .idle ∧ idle.reply = none ∧ (List.replicate 22 (0xFF : Byte)).length = 22 := by decide

/-- The ends of the tentative time; a value free and one another entry holds; a body with each fault. -/
theorem witness_Put_Address_writes_one_entry :
    (idle.proxy = .idle ∧ idle.reply = none) ∧ (0 < 256 ∧ 255 < 256) ∧
      (let s := { idle with entries := working.entries }
       (∀ j : Fin 16, j ≠ 0 → ∀ e ∈ s.entries[j], e.value ≠ .short 0xC0000201) ∧
         ∃ j : Fin 16, j ≠ 15 ∧ ∃ e, s.entries[j] = some e ∧ e.value = .short 0xC0000201) ∧
      (List.replicate 1598 (0 : Byte)).length ≤ 1598 ∧
      (FirstFault (addressFaults [16]) .badIndex ∧ FirstFault (addressFaults [15, 3]) .badKind ∧
        FirstFault (addressFaults [0, 1, 2]) .badKind ∧ FirstFault (addressFaults [0, 1, 0, 0, 1]) .badLength ∧
        FirstFault (addressFaults []) .badLength) :=
  ⟨by decide, by decide, ⟨by decide +kernel, 0, by decide, _, rfl, rfl⟩, Nat.le_of_eq List.length_replicate,
    by simp [FirstFault, addressFaults, ByteAt, OptByteAt]⟩

/-- A signature of the largest weight. -/
def someSignature : Signature := { gateway := otherAddr, probeDuty := 5, lane := 7, weight := 65535 }

/-- Match lengths, lane settings and curves within and outside their ranges; bodies with an index or a code that names nothing; an
absent signature. -/
theorem witness_Settings_are_stored_as_carried :
    (idle.proxy = .idle ∧ idle.reply = none) ∧
      (let g : GroupEntry := { inUse := true, addr := otherAddr, matchLen := 255 }
       g.matchLen < 256 ∧ { g with matchLen := 0 }.matchLen < 256) ∧
      (let b : List Byte := 8 :: List.replicate 8 0
       b.length = 9 ∧ 8 ≤ readNat b 0 1) ∧
      (∀ j : Fin 8,
        let v : Vector LaneSetting 8 := Vector.replicate 8 { threshold := 65535, mode := .step, shift := 255, step := 65535 }
        (v[j]).threshold < 65536 ∧ (v[j]).shift < 256 ∧ (v[j]).step < 65536) ∧
      (let b : List Byte := List.replicate 44 0 ++ [2, 0, 0, 0]
       b.length = 48 ∧ 1 < readNat b (6 * (7 : Fin 8).val + 2) 1) ∧
      (let c : Curve :=
        { points := Vector.replicate 9 255, ramp := 0, stormLevel := 1024, stormLane := 7, stormWeight := 65535 }
       (∀ k : Fin 9, c.points[k] < 256) ∧ c.ramp < 256 ∧ c.stormLevel < 65536 ∧ c.stormWeight < 65536) ∧
      someSignature.weight < 65536 ∧
      (let b : List Byte := List.replicate 11 0
       b.length = 11 ∧ readNat b 0 1 = 0) ∧
      (let b : List Byte := [1, 0, 0, 0, 0, 0, 0, 12, 0, 0, 0]
       b.length = 11 ∧ readNat b 0 1 ≠ 0 ∧ 12 ≤ readNat b 7 1) := by decide +kernel

/-- No compare items end where they begin. -/
theorem endsAfterNone : EndsAfterItems [] 0 0 := ⟨[], rfl, nofun, rfl⟩

/-- A rule in range; a rule with fields above their ranges and items carried with length 0 and 9; a body with each fault. -/
theorem witness_Put_Rule_stores_the_rule :
    (idle.proxy = .idle ∧ idle.reply = none ∧ workingRule.InRange) ∧
      (let r : Rule :=
        { workingRule with
          items := [{ offset := 65535, bytes := [] }, { offset := 0, bytes := List.replicate 9 (1, 2) }]
          claimantOffset := 1514 }
       r.Carried ∧ (ruleBody 31 r).length ≤ 1600) ∧
      (FirstFault (ruleFaults [32]) .badIndex ∧ FirstFault (ruleFaults (List.replicate 11 0 ++ [5])) .badKind ∧
        FirstFault (ruleFaults []) .badLength ∧
        FirstFault (ruleFaults (List.replicate 11 0 ++ [3] ++ List.replicate 11 0)) .badValue) :=
  ⟨⟨rfl, rfl, itemsInRange (by decide), by decide, by decide, by decide, by decide⟩,
    ⟨⟨by simp [CompareItem.Carried], by decide, by decide, by decide, by decide⟩, by decide +kernel⟩,
    by simp [FirstFault, ruleFaults, ByteAt, OptByteAt],
    by simp [FirstFault, ruleFaults, ByteAt, OptByteAt, List.replicate],
    by simp [FirstFault, ruleFaults, ByteAt, OptByteAt],
    .inr ⟨by simp [ByteAt, OptByteAt, List.replicate], .inr ⟨by simp [ByteAt, OptByteAt, List.replicate], .inr ⟨by
      rintro (h | h | h)
      · revert h; decide
      · simp [ByteAt, List.replicate] at h
      · exact h endsAfterNone, by simp [FirstFault, ByteAt, List.replicate]⟩⟩⟩⟩

/-- An idle part whose Template Pool has room for 8 bytes only. -/
def full : State := { idle with pool := [(0, List.replicate 8184 0)] }

/-- Lengths 13, 14, 1,514 and 1,515; a loaded id; a pool without room and one whose room is just enough. -/
theorem witness_Put_Template_loads_or_refuses :
    (proxying.reply = none ∧ proxying.proxy ≠ .idle) ∧
      (idle.reply = none ∧ idle.proxy = .idle ∧ (List.replicate 13 (0 : Byte)).length < 14 ∧
        1514 < (List.replicate 1515 (0 : Byte)).length ∧ (List.replicate 1515 (0 : Byte)).length < 1600) ∧
      (full.reply = none ∧ full.proxy = .idle ∧ 14 ≤ (List.replicate 14 (0 : Byte)).length ∧
        (List.replicate 1514 (0 : Byte)).length ≤ 1514 ∧ (∃ t ∈ full.pool, t.1 = 0)) ∧
      ((∀ t ∈ full.pool, t.1 ≠ 47) ∧ 8192 - poolUsed full < (List.replicate 14 (0 : Byte)).length) ∧
      (let s := { idle with pool := [(0, List.replicate 8178 0)] }
       (∀ t ∈ s.pool, t.1 ≠ 47) ∧ (List.replicate 14 (0 : Byte)).length ≤ 8192 - poolUsed s) ∧
      (48 ≤ 48 ∧ 48 < 256 ∧ 48 ≤ 255 ∧ 255 < 256) := by
  refine ⟨⟨rfl, by decide⟩, ⟨rfl, rfl, by decide, ?_, ?_⟩, ⟨rfl, rfl, by decide, ?_, ?_⟩, ⟨?_, ?_⟩, ⟨?_, ?_⟩, by decide⟩ <;>
    simp only [full, poolUsed, List.length_replicate, List.mem_singleton, List.map_cons, List.map_nil, List.sum_cons,
      List.sum_nil, forall_eq, exists_eq_left] <;> decide

/-- Eight patches of the seven kinds, their operands at the ends of their ranges. -/
def eightPatches : List Patch :=
  [.copy 1513 1513 64, .copy 0 0 1, .ownLink 1513, .fillEntry 1513 (.index 15), .setMasked 1513 0 0xFF, .counter 1513 4,
   .length 1513 1514, .sum16 1514 1514 1513 .long 1513 1513 6 true]

/-- A patch of each kind with its operands above their ranges. -/
def widePatches : List Patch :=
  [.copy 65535 1514 255, .copy 0 0 0, .ownLink 1514, .fillEntry 1514 .matched, .setMasked 1514 0 0xFF, .counter 1514 0,
   .length 1514 1515, .sum16 1600 1515 1514 .short 1514 1514 6 true]

/-- Eight patches in range and eight out of range; a body with each fault. -/
theorem witness_Put_Patch_List_stores_the_list :
    (idle.proxy = .idle ∧ idle.reply = none ∧ eightPatches.length ≤ 8 ∧ (∀ p ∈ eightPatches, p.InRange) ∧
      (List.replicate 1598 (0 : Byte)).length ≤ 1598) ∧
      (widePatches.length ≤ 8 ∧ (∀ p ∈ widePatches, p.Carried) ∧ ∀ start stop store pseudo addrA addrB protocol zeroAsOnes,
        Patch.sum16 start stop store pseudo addrA addrB protocol zeroAsOnes ∈ widePatches → min 1514 start ≤ min 1514 stop) ∧
      (FirstFault (patchListFaults [32]) .badIndex ∧ FirstFault (patchListFaults [0]) .badLength ∧
        FirstFault (patchListFaults ([0, 1, 1] ++ List.replicate 16 0)) .badKind ∧
        FirstFault (patchListFaults ([0, 1, 1, 3, 0, 0, 0, 16] ++ List.replicate 11 0)) .badIndex ∧
        FirstFault (patchListFaults ([0, 1, 1, 7, 0, 9, 0, 8] ++ List.replicate 11 0)) .badValue) :=
  ⟨⟨rfl, rfl, by decide, by simp [eightPatches, Patch.InRange], Nat.le_of_eq List.length_replicate⟩,
    ⟨by decide, by simp [widePatches, Patch.Carried], by simp [widePatches]; omega⟩,
    by simp [FirstFault, patchListFaults, ByteAt], by simp [FirstFault, patchListFaults, ByteAt],
    by simp [FirstFault, patchListFaults, ByteAt, PatchKindBad, readNat, slice, natOfBytes, List.replicate],
    by simp [FirstFault, patchListFaults, ByteAt, PatchKindBad, readNat, slice, natOfBytes, List.replicate],
    by simp [FirstFault, patchListFaults, ByteAt, PatchKindBad, readNat, slice, natOfBytes, List.replicate]⟩

/-- A duty in range; a duty with fields outside their ranges; a body with each fault. -/
theorem witness_Put_Duty_stores_the_duty :
    (idle.proxy = .idle ∧ idle.reply = none ∧ dutyProfile.InRange ∧ (List.replicate 1598 (0 : Byte)).length ≤ 1598) ∧
      (let p : DutyProfile :=
        { dutyProfile with
          firstDelay := 4294967295, interval := 0, replyWindow := 9, startupTries := 0, runTries := 255, roundsLimit := 8,
          reply := some { items := [{ offset := 1514, bytes := [] }], echo := some { offset := 1514, width := 5 } },
          capture := some { offset := 1514, width := 4, target := .interval 257 604801 604800 } }
       p.Carried ∧ (dutyBody 11 p).length ≤ 1600) ∧
      (FirstFault (dutyFaults [12]) .badIndex ∧ FirstFault (dutyFaults ([0, 1] ++ List.replicate 21 0 ++ [3])) .badKind ∧
        FirstFault (dutyFaults [0]) .badLength ∧
        FirstFault (dutyFaults ([0, 1] ++ List.replicate 25 0 ++ [1] ++ List.replicate 31 0)) .badValue) :=
  ⟨⟨rfl, rfl, dutyProfile_inRange, Nat.le_of_eq List.length_replicate⟩,
    ⟨⟨by decide, by decide, by decide,
        fun q h => by cases h; exact ⟨by simp [CompareItem.Carried], by simp⟩,
        fun q h => by cases h; exact ⟨by simp [typePattern, CompareItem.Carried], by simp [typePattern]⟩,
        by decide, by decide, by decide, by decide, by decide, fun lane w h => by cases h; decide,
        fun c h => by cases h; exact ⟨by decide, by decide, fun n lo hi h => by cases h; decide⟩, by decide⟩,
      by decide +kernel⟩,
    by simp [FirstFault, dutyFaults, ByteAt, OptByteAt],
    by simp [FirstFault, dutyFaults, ByteAt, OptByteAt, List.replicate],
    by simp [FirstFault, dutyFaults, ByteAt, OptByteAt],
    .inr ⟨by simp [ByteAt, OptByteAt, List.replicate], .inr ⟨by simp [ByteAt, OptByteAt, List.replicate], .inr ⟨by
      rintro (h | ⟨-, h | h | h | h⟩)
      · revert h; decide
      · revert h; decide
      · revert h; decide
      · revert h; decide
      · exact h endsAfterNone, by simp [FirstFault, ByteAt, OptByteAt, List.replicate]⟩⟩⟩⟩

/-! #### The lifecycle -/

/-- An idle part with twelve duties as its whole profile: duty 5 has a first delay of 1 s, the others of 0 s. -/
def loaded : State :=
  { withDuty 5 dutyProfile (runIn .waiting none) idle with
    linkState := .up
    duties := Vector.ofFn fun d : Fin 12 =>
      { probe := false
        duty := some
          { profile := { dutyProfile with firstDelay := if d = 5 then 1 else 0 }, run := runIn .waiting none } } }

/-- The loaded part passes the nine checks. -/
theorem loaded_profileOk : ProfileOk loaded := by
  have rules : ∀ i : Fin 32, (loaded.rules[i]).inUse = false := by decide +kernel
  have lists : ∀ d : Fin 12, ∀ u ∈ (loaded.duties[d]).duty, u.profile.patchList = none := by decide +kernel
  have noList : ∀ (d : Fin 12) (u : Duty), (loaded.duties[d]).duty = some u → listOf loaded u.profile.patchList = [] := by
    intro d u h; rw [lists d u h]; rfl
  intro step i
  match step with
  | 0 => rintro ⟨-, h⟩; revert h; decide
  | 1 | 2 | 4 | 6 | 10 => rintro ⟨k, -, h, -⟩; rw [rules k] at h; cases h
  | 3 => rintro ⟨d, u, -, h, id, hid, -⟩; rw [lists d u h] at hid; cases hid
  | 5 => rintro ⟨d, u, -, h, b, -, q, hq, -⟩; rw [noList d u h] at hq; cases hq
  | 7 => rintro ⟨d, u, -, h, hp⟩; rw [noList d u h] at hp; simp at hp
  | 8 =>
    have only : ∀ d : Fin 12, ∀ u ∈ (loaded.duties[d]).duty, u.profile.template = 0 := by decide +kernel
    rintro ⟨d, u, -, h, hp⟩
    rw [only d u h] at hp
    exact hp ⟨_, List.mem_singleton.2 rfl, rfl⟩
  | 9 => rintro ⟨-, g, h, -⟩; cases h
  | n + 11 => exact id

/-- A part whose rules 3 and 9 answer without a template. -/
def untemplated : State := { idle with rules := (idle.rules.set 3 (ownRule .answer)).set 9 (ownRule .answer) }

/-- Rule 3 is its first offence. -/
theorem untemplated_firstOffence : FirstOffence untemplated 1 3 where
  offends := ⟨3, rfl, by decide +kernel, by decide +kernel, nofun⟩
  earlier := by rintro (_ | k) h j; · rintro ⟨-, h⟩; revert h; decide
                · omega
  lower := by
    have only : ∀ k : Fin 32, k.val < 3 → (untemplated.rules[k]).inUse = false := by decide +kernel
    rintro j hj ⟨k, hk, h, -⟩
    rw [only k (by omega)] at h
    cases h

/-- A passing profile; a first offence of check 1 and one of check 2; a profile that fails. -/
theorem witness_Assume_runs_the_nine_checks :
    (loaded.proxy = .idle ∧ loaded.reply = none ∧ ProfileOk loaded) ∧
      (State.reset.proxy = .idle ∧ State.reset.reply = none ∧ FirstOffence State.reset 0 0) ∧
      (untemplated.proxy = .idle ∧ untemplated.reply = none ∧ FirstOffence untemplated 1 3 ∧ ¬ProfileOk untemplated) :=
  ⟨⟨rfl, rfl, loaded_profileOk⟩, ⟨rfl, rfl, ⟨rfl, rfl⟩, nofun, nofun⟩, rfl, rfl, untemplated_firstOffence,
    fun h => h 1 3 untemplated_firstOffence.offends⟩

/-- A passing profile with a first delay of 1 s, with eleven of 0 s (more than the queue takes), and with the link not up. -/
theorem witness_Assume_starts_every_block :
    (loaded.proxy = .idle ∧ loaded.reply = none ∧ loaded.queue = [] ∧ loaded.held = [] ∧ ProfileOk loaded ∧
      (∃ u, (loaded.duties[(5 : Fin 12)]).duty = some u ∧ u.profile.firstDelay ≠ 0) ∧
      ((List.finRange 12).countP fun d => (loaded.duties[d]).duty.any fun u => u.profile.firstDelay = 0) = 11 ∧
      loaded.linkState = .up) ∧
      (let s := { loaded with linkState := .unknown }
       s.proxy = .idle ∧ s.reply = none ∧ s.queue = [] ∧ s.held = [] ∧ ProfileOk s ∧ s.linkState ≠ .up) :=
  ⟨⟨rfl, rfl, rfl, rfl, loaded_profileOk, ⟨_, rfl, by decide⟩, by decide +kernel, rfl⟩,
    rfl, rfl, rfl, rfl, loaded_profileOk, by decide⟩

theorem witness_Reclaim_stops_the_blocks :
    working.active = true ∧ working.reply = none ∧ someInFlight working.queue = true := by decide

theorem witness_Handback_completes_with_nothing_in_flight :
    (let s := { handingBack with queue := [] }
     s.proxy = .handback ∧ someInFlight s.queue = false) ∧
      (waking.active = true ∧ waking.reply = none ∧ someInFlight waking.queue = false) ∧
      (handingBack.proxy = .handback ∧ handingBack.queue = [] ++ answerEntry true :: [] ∧
        (answerEntry true).inFlight = true ∧ (∀ x ∈ ([] : List TxEntry) ++ [], x.inFlight = false) ∧
        (answerEntry true).origin = .rule 0) ∧
      (let e : TxEntry := { answerEntry true with origin := .duty 5, cls := .duty }
       let s := { handingBack with queue := [e] }
       s.proxy = .handback ∧ s.queue = [] ++ e :: [] ∧ e.inFlight = true ∧ e.origin = .duty 5) := by decide +kernel

theorem witness_Rearm_keeps_and_Detach_clears_the_profile :
    (reporting.reply = none ∧ reporting.proxy = .report) ∧ idle.reply = none ∧ idle.proxy = .idle := by decide

/-! #### Received frames -/

/-- A frame that arrives, from the three facts. -/
theorem arrivesOf {s : State} {frame f : Frame} {c : DestClass} (a : s.active = true)
    (n : normalise frame = some (f, s.station.vlan)) (d : destClass s f = some c) : Arrives s frame f c := ⟨a, n, d⟩

/-- An IP frame to the station. -/
def ownFrame : Frame := frameOf ownAddr otherAddr 0x0800 []

/-- A tagged frame to the station, VLAN 5. -/
def taggedFrame : Frame :=
  bytesOfBits 6 ownAddr ++ bytesOfBits 6 otherAddr ++ [0x81, 0x00, 0x00, 0x05] ++ List.replicate 46 0

/-- The proxying part on VLAN 4. -/
def onVlan : State := { proxying with station := { proxying.station with vlan := some 4 } }

theorem proxying_served : Served proxying := fun _ => rfl

/-- 13 and 1,523 bytes; 17 bytes with a tag; a tag of another VLAN; no tag where the station has a VLAN. -/
theorem witness_Frames_end_at_intake_size_and_vlan :
    (idle.proxy = .idle ∧ reporting.proxy = .report) ∧ (onVlan.active = true ∧ Served onVlan) ∧
      (¬(14 ≤ (List.replicate 13 (0 : Byte)).length ∧ (List.replicate 13 (0 : Byte)).length ≤ 1522)) ∧
      (¬(14 ≤ (List.replicate 1523 (0 : Byte)).length ∧ (List.replicate 1523 (0 : Byte)).length ≤ 1522)) ∧
      (let f := taggedFrame.take 17
       (f.drop 12).take 2 = [0x81, 0x00] ∧ f.length < 18) ∧
      ((14 ≤ taggedFrame.length ∧ taggedFrame.length ≤ 1522) ∧ (taggedFrame.drop 12).take 2 = [0x81, 0x00] ∧
        18 ≤ taggedFrame.length ∧ onVlan.station.vlan ≠ some (BitVec.ofNat 12 (readNat taggedFrame 14 2))) ∧
      ((14 ≤ ownFrame.length ∧ ownFrame.length ≤ 1522) ∧ ¬(ownFrame.drop 12).take 2 = [0x81, 0x00] ∧
        onVlan.station.vlan ≠ none) :=
  ⟨by decide, ⟨rfl, fun _ => rfl⟩, by rw [List.length_replicate]; decide, by rw [List.length_replicate]; decide,
    by decide +kernel, by decide +kernel, by decide +kernel⟩

theorem witness_Destination_stage_follows_the_table :
    (14 ≤ ownFrame.length ∧ ownFrame.length ≤ 1522 ∧ (ownFrame.drop 12).take 2 ≠ [0x81, 0x00]) ∧
      (18 ≤ taggedFrame.length ∧ taggedFrame.length ≤ 1522 ∧ (taggedFrame.drop 12).take 2 = [0x81, 0x00]) ∧
      (∀ k : Fin 8, (proxying.groups[k]).matchLen ≤ 6) ∧
      (let f := frameOf otherAddr ownAddr 0x0800 []
       proxying.active = true ∧ normalise f = some (f, proxying.station.vlan) ∧ destClass proxying f = none) ∧ Served proxying :=
  ⟨by decide +kernel, by decide +kernel, by decide +kernel, by decide +kernel, proxying_served⟩

theorem witness_Frames_go_to_the_first_that_matches :
    (∀ e : Fin 12, ∀ u ∈ (working.duties[e]).duty, ∀ q, u.profile.reply = some q ∨ u.profile.reject = some q →
      ∀ x ∈ q.echo, x.width ≤ 4) ∧ EntryInv working ∧ 14 ≤ ownFrame.length := by
  refine ⟨fun e u h q r => ?_, working_inv.entry, by decide +kernel⟩
  have only : ∀ d : Fin 12, ∀ u ∈ (working.duties[d]).duty, u.profile = dutyProfile := by decide +kernel
  rw [only e u h] at r
  rcases r with r | r <;> cases r <;> nofun

/-- The proxying part with the network FOREIGN. -/
def foreign : State := { proxying with net := .foreign, signature := some someSignature }

theorem witness_Muted_unmatched_noted_and_dropped_frames :
    (Arrives foreign ownFrame ownFrame .own ∧ Served foreign ∧ offeredDuty foreign ownFrame = none ∧
        foreign.net ≠ .attached) ∧
      (Arrives proxying ownFrame ownFrame .own ∧ Served proxying ∧ offeredDuty proxying ownFrame = none ∧
        proxying.net = .attached ∧ walkRules proxying .own ownFrame = none) ∧
      (let s := withRule (ownRule .note) proxying
       Arrives s ownFrame ownFrame .own ∧ Served s ∧ offeredDuty s ownFrame = none ∧
         walkRules s .own ownFrame = some (3, none) ∧ (s.rules[(3 : Fin 32)]).action = .note) ∧
      (let s := withRule (ownRule .drop) proxying
       walkRules s .own ownFrame = some (3, none) ∧ (s.rules[(3 : Fin 32)]).action = .drop) ∧
      (let s := handingBack
       s.proxy = .handback ∧ Served s ∧ normalise ownFrame = some (ownFrame, s.station.vlan) ∧
         destClass s ownFrame = some .own ∧ walkRules s .own ownFrame = none) ∧
      (let s := withRule (ownRule .answer) handingBack
       s.proxy = .handback ∧ Served s ∧ destClass s ownFrame = some .own ∧ walkRules s .own ownFrame = some (3, none) ∧
         (s.rules[(3 : Fin 32)]).action ≠ .hold) :=
  ⟨⟨arrivesOf rfl (by decide +kernel) (by decide +kernel), fun _ => rfl, by decide +kernel, by decide⟩,
    ⟨arrivesOf rfl (by decide +kernel) (by decide +kernel), fun _ => rfl, by decide +kernel, rfl, by decide +kernel⟩,
    ⟨arrivesOf rfl (by decide +kernel) (by decide +kernel), fun _ => rfl, by decide +kernel, by decide +kernel,
      by decide +kernel⟩, by decide +kernel, ⟨rfl, nofun, by decide +kernel⟩, rfl, nofun, by decide +kernel⟩

theorem witness_Hold_keeps_the_frame_or_counts_it :
    (let s := withRule (ownRule .hold) proxying
     Served s ∧ normalise ownFrame = some (ownFrame, s.station.vlan) ∧ destClass s ownFrame = some .own ∧
       walkRules s .own ownFrame = some (3, none) ∧ (s.rules[(3 : Fin 32)]).action = .hold ∧ s.active = true ∧
       s.net = .attached ∧ offeredDuty s ownFrame = none) ∧
      (let s := withRule (ownRule .hold) handingBack
       Served s ∧ walkRules s .own ownFrame = some (3, none) ∧ destClass s ownFrame = some .own ∧ s.proxy = .handback) :=
  ⟨⟨fun _ => rfl, by decide +kernel, by decide +kernel, by decide +kernel, by decide +kernel, rfl, rfl, by decide +kernel⟩,
    nofun, by decide +kernel, by decide +kernel, rfl⟩

/-- The proxying part with an ANSWER rule of a class. -/
def answering (cls : AnswerClass) : State := withRule { ownRule .answer with cls := cls, template := some 0 } proxying

/-- An answering part facing a frame its rule takes. -/
theorem answering_takes (cls : AnswerClass) :
    Arrives (answering cls) ownFrame ownFrame .own ∧ (answering cls).net = .attached ∧
      offeredDuty (answering cls) ownFrame = none ∧ walkRules (answering cls) .own ownFrame = some (3, none) ∧
      Served (answering cls) ∧ ((answering cls).rules[(3 : Fin 32)]).action = .answer ∧
      ((answering cls).rules[(3 : Fin 32)]).template = some 0 := by
  cases cls <;>
    exact ⟨arrivesOf rfl (by decide +kernel) (by decide +kernel), rfl, by decide +kernel, by decide +kernel, fun _ => rfl,
      by decide +kernel, by decide +kernel⟩

/-- An answering part whose queue holds some answers behind one in flight. -/
def behind (n : Nat) (s : State) : State :=
  { s with queue := answerEntry true :: List.replicate n { answerEntry false with cls := .ordinary } }

/-- No matched entry allows an answer, and so does a DEFENDED one in mode ANSWER; a LOST one does not match, a TENTATIVE one
withholds. The budget and the queue at and below their limits. -/
theorem witness_Answers_are_withheld_refused_or_admitted :
    (let s : State := { answering .ordinary with
       entries := proxying.entries.set 0 (some (entryIn (.short 0) .tentative))
       rules := (answering .ordinary).rules.set 3
         { ownRule .answer with template := some 0, addrRef := some { offset := 30, kind := .short } } }
     Arrives s ownFrame ownFrame .own ∧ Served s ∧ offeredDuty s ownFrame = none ∧
       walkRules s .own ownFrame = some (3, some 0) ∧
       ¬∀ k ∈ some (0 : Fin 16), ∃ e, s.entries[k] = some e ∧ (e.state = .defended ∨ e.state = .contested) ∧ e.mode = .answer) ∧
      (let s := { answering .ordinary with spent := 32 }
       walkRules s .own ownFrame = some (3, none) ∧ s.budget ≤ s.spent) ∧
      ((answering .ordinary).spent < (answering .ordinary).budget ∧ (answering .ordinary).queue.length < 8 ∧
        ordinaryCount (answering .ordinary).queue < 6) ∧
      (let s := behind 6 (answering .ordinary)
       walkRules s .own ownFrame = some (3, none) ∧ s.spent < s.budget ∧ s.queue.length < 8 ∧ 6 ≤ ordinaryCount s.queue) ∧
      (answering .essential).queue.length < 8 ∧
      (let s := behind 7 (answering .essential)
       walkRules s .own ownFrame = some (3, none) ∧ 8 ≤ s.queue.length) := by
  refine ⟨⟨arrivesOf rfl (by decide +kernel) (by decide +kernel), fun _ => rfl, by decide +kernel, by decide +kernel,
    fun h => ?_⟩, by decide +kernel, by decide +kernel, by decide +kernel, by decide +kernel, by decide +kernel⟩
  obtain ⟨e, he, hs, _⟩ := h 0 rfl
  cases he
  revert hs
  decide

/-- A part with a CLAIM rule, with a template or without, and entry 0 in a state. -/
def claiming (st : EntryState) (answers : Bool) : State :=
  { withRule { ownRule .claim with
      addrRef := some { offset := 30, kind := .short }, claimantOffset := 6
      template := if answers then some 0 else none } proxying with
    entries := proxying.entries.set 0 (some (entryIn (.short 0) st)) }

/-- The part's own echo of a claim. -/
def echoFrame : Frame := frameOf ownAddr ownAddr 0x0800 []

/-- The part's own echo, and a claim by another station against an entry in each state, with and without a template, with room
and without. -/
theorem witness_Claims_are_ruled_by_the_entry_state :
    (∀ f, f = ownFrame ∨ f = echoFrame → ∀ st,
      Arrives (claiming st false) f f .own ∧ (claiming st false).net = .attached ∧ offeredDuty (claiming st false) f = none ∧
        walkRules (claiming st false) .own f = some (3, some 0) ∧ Served (claiming st false) ∧
        (claiming st false).entries[(0 : Fin 16)] = some (entryIn (.short 0) st) ∧
        ((claiming st false).rules[(3 : Fin 32)]).action = .claim) ∧
      (linkAddrAt echoFrame 6 = proxying.station.ownAddr ∧ linkAddrAt ownFrame 6 ≠ proxying.station.ownAddr) ∧
      ((claiming .defended false).rules[(3 : Fin 32)]).template = none ∧
      (let s := claiming .defended true
       Arrives s ownFrame ownFrame .own ∧ walkRules s .own ownFrame = some (3, some 0) ∧ Served s ∧
         (s.rules[(3 : Fin 32)]).template = some 0 ∧ s.queue.length < 8) ∧
      (let s := behind 7 (claiming .defended true)
       Served s ∧ walkRules s .own ownFrame = some (3, some 0) ∧ 8 ≤ s.queue.length) := by
  refine ⟨fun f hf st => ?_, by decide +kernel, by decide +kernel,
    ⟨arrivesOf rfl (by decide +kernel) (by decide +kernel), by decide +kernel, fun _ => rfl, by decide +kernel,
      by decide +kernel⟩, nofun, by decide +kernel, by decide +kernel⟩
  rcases hf with rfl | rfl <;> cases st <;>
    exact ⟨arrivesOf rfl (by decide +kernel) (by decide +kernel), rfl, by decide +kernel, by decide +kernel, fun _ => rfl,
      by decide +kernel, by decide +kernel⟩

/-! #### Duties -/

/-- A frame a duty's reply pattern matches, and one its reject pattern matches. -/
def replyFrame : Frame := frameOf ownAddr otherAddr 0x88B5 [0, 40]
def rejectFrame : Frame := frameOf ownAddr otherAddr 0x88B6 []

/-- A part with an AWAITING duty of a profile at id 5. -/
def awaiting (p : DutyProfile) (s : State) : State := withDuty 5 p (runIn .awaiting (some 400)) s

/-- A capture reaching the frame's end, and one reaching past it. -/
def capturing (offset : Nat) (target : CaptureTarget) : DutyProfile :=
  { dutyProfile with capture := some { offset := offset, width := 2, target := target } }

/-- A part in CHECKING whose probe, duty 5, is in a state. -/
def checking (r : DutyRun) (link : LinkState) (net : NetState) : State :=
  { proxying with
    linkState := link
    net := net
    signature := some someSignature
    pool := [(0, List.replicate 14 0x11)]
    duties := proxying.duties.set 5 { probe := true, duty := some { profile := dutyProfile, run := r } } }

theorem witness_Reply_ends_the_run_in_success :
    (let s := awaiting dutyProfile proxying
     Arrives s replyFrame replyFrame .own ∧ Served s ∧ s.net = .attached ∧ offeredDuty s replyFrame = some 5 ∧
       (typePattern 0x88 0xB5).passes 7 replyFrame = true ∧ (s.duties[(5 : Fin 12)]).probe = false) ∧
      (let s := awaiting (capturing 59 .counter) proxying
       Arrives s replyFrame replyFrame .own ∧ offeredDuty s replyFrame = some 5 ∧ replyFrame.length < 59 + 2) ∧
      (let s := awaiting (capturing 58 .counter) proxying
       offeredDuty s replyFrame = some 5 ∧ 58 + 2 ≤ replyFrame.length) ∧
      (let s := awaiting (capturing 14 (.interval 128 30 30)) proxying
       offeredDuty s replyFrame = some 5 ∧ 14 + 2 ≤ replyFrame.length ∧ 30 ≤ 30) ∧
      (let s := checking (runIn .awaiting (some 400)) .up .attached
       Arrives s replyFrame replyFrame .own ∧ Served s ∧ offeredDuty s replyFrame = some 5 ∧
         ∀ g ∈ s.signature, (replyFrame.drop 6).take 6 = bytesOfBits 6 g.gateway) :=
  ⟨⟨arrivesOf rfl (by decide +kernel) (by decide +kernel), fun _ => rfl, rfl, by decide +kernel, by decide +kernel,
      by decide +kernel⟩,
    ⟨arrivesOf rfl (by decide +kernel) (by decide +kernel), by decide +kernel, by decide +kernel⟩, by decide +kernel,
    by decide +kernel, arrivesOf rfl (by decide +kernel) (by decide +kernel), fun _ => rfl, by decide +kernel,
    by decide +kernel⟩

theorem witness_Reject_ends_the_run_in_the_failure_action :
    let s := awaiting dutyProfile proxying
    Arrives s rejectFrame rejectFrame .own ∧ Served s ∧ s.net = .attached ∧ offeredDuty s rejectFrame = some 5 ∧
      (typePattern 0x88 0xB6).passes 7 rejectFrame = true ∧
      ∀ p ∈ dutyProfile.reply, p.passes 7 rejectFrame = false :=
  ⟨arrivesOf rfl (by decide +kernel) (by decide +kernel), fun _ => rfl, rfl, by decide +kernel, by decide +kernel,
    by decide +kernel⟩

/-- The Network Check is consistent there. -/
theorem checking_net (r : DutyRun) (link : LinkState) (net : NetState) (h : net = .linkDown ↔ link ≠ .up) :
    NetInv (checking r link net) where
  flags := by
    have only : ∀ d : Fin 12, ((checking r link net).duties[d]).probe = decide (d = 5) := by
      intro d
      fin_cases d <;> rfl
    intro d
    rw [only d]
    simp [checking, someSignature, eq_comm]
  link := fun _ => h
  signature := nofun
  probe := fun _ g hg => by cases hg; exact ⟨_, rfl, rfl⟩

/-- A reply from the gateway, with a capture and without; a reply from another source, in CHECKING and in ATTACHED; a reject. -/
theorem witness_Probe_result_decides_the_network :
    let s := checking (runIn .awaiting (some 400)) .up .checking
    let f := frameOf ownAddr 0x020000000011 0x88B5 []
    (Arrives s replyFrame replyFrame .own ∧ Served s ∧ NetInv s ∧ s.net = .checking ∧ s.signature = some someSignature ∧
      (s.duties[(5 : Fin 12)]).probe = true ∧
      (s.duties[(5 : Fin 12)]).duty = some { profile := dutyProfile, run := runIn .awaiting (some 400) }) ∧
      ((typePattern 0x88 0xB5).passes 7 replyFrame = true ∧
        (replyFrame.drop 6).take 6 = bytesOfBits 6 someSignature.gateway) ∧
      (Arrives s f f .own ∧ (typePattern 0x88 0xB5).passes 7 f = true ∧
        (f.drop 6).take 6 ≠ bytesOfBits 6 someSignature.gateway) ∧
      (Arrives s rejectFrame rejectFrame .own ∧ (typePattern 0x88 0xB6).passes 7 rejectFrame = true ∧
        ¬∃ q, dutyProfile.reply = some q ∧ q.passes 7 rejectFrame = true) ∧
      (let a := checking (runIn .awaiting (some 400)) .up .attached
       Arrives a f f .own ∧ Served a ∧ a.signature = some someSignature ∧ (a.duties[(5 : Fin 12)]).probe = true ∧
         a.net = .attached ∧ offeredDuty a f = some 5) :=
  ⟨⟨arrivesOf rfl (by decide +kernel) (by decide +kernel), fun _ => rfl, checking_net _ _ _ (by decide), rfl, rfl, rfl, rfl⟩,
    by decide +kernel, ⟨arrivesOf rfl (by decide +kernel) (by decide +kernel), by decide +kernel, by decide +kernel⟩,
    ⟨arrivesOf rfl (by decide +kernel) (by decide +kernel), by decide +kernel,
      fun ⟨_, h, hp⟩ => by cases h; revert hp; decide +kernel⟩,
    arrivesOf rfl (by decide +kernel) (by decide +kernel), fun _ => rfl, rfl, rfl, rfl, by decide +kernel⟩

/-- A part with a duty whose patch list names entry 0, which is LOST. -/
def losing (r : DutyRun) : State :=
  { withDuty 5 { dutyProfile with patchList := some 1 } r proxying with
    entries := proxying.entries.set 0 (some (entryIn (.short 1) .lost))
    patchLists := proxying.patchLists.set 1 (some [.fillEntry 10 (.index 0)]) }

theorem losing_namesLost (r : DutyRun) : NamesLost (losing r) (some 1) :=
  ⟨10, 0, entryIn (.short 1) .lost, List.mem_singleton.2 rfl, rfl, rfl⟩

theorem no_list_namesLost (s : State) : ¬NamesLost s none := fun ⟨_, _, _, h, _⟩ => nomatch h

theorem witness_Try_defers_suspends_queues_or_blocks :
    (¬Leave (awaiting dutyProfile foreign) 5 ∧ ((awaiting dutyProfile foreign).duties[(5 : Fin 12)]).duty.isSome = true) ∧
      (Leave (losing (runIn .waiting none)) 5 ∧ NamesLost (losing (runIn .waiting none)) (some 1)) ∧
      (let s := behind 6 (awaiting dutyProfile proxying)
       Leave s 5 ∧ ¬NamesLost s dutyProfile.patchList ∧ s.queue.length < 8) ∧
      (let s := behind 7 (awaiting dutyProfile proxying)
       Leave s 5 ∧ ¬NamesLost s dutyProfile.patchList ∧ 8 ≤ s.queue.length) :=
  ⟨⟨by rintro (h | h) <;> revert h <;> decide +kernel, by decide +kernel⟩, ⟨.inl rfl, losing_namesLost _⟩,
    ⟨.inl rfl, no_list_namesLost _, by decide +kernel⟩, .inl rfl, no_list_namesLost _, by decide +kernel⟩

theorem witness_Duty_timers_start_runs_and_rounds :
    (let s := withDuty 5 dutyProfile (runIn .waiting (some 0)) foreign
     s.active = true ∧ Served s ∧ ¬Leave s 5) ∧
      (let s := losing (runIn .waiting (some 0))
       s.active = true ∧ Served s ∧ Leave s 5 ∧ NamesLost s (some 1)) ∧
      (let s := withDuty 5 dutyProfile (runIn .waiting (some 0)) proxying
       s.active = true ∧ Served s ∧ Leave s 5 ∧ ¬NamesLost s dutyProfile.patchList) ∧
      (let s := withDuty 5 dutyProfile (runIn .backoff (some 0)) proxying
       s.active = true ∧ Served s ∧ Leave s 5 ∧
         (s.duties[(5 : Fin 12)]).duty = some { profile := dutyProfile, run := runIn .backoff (some 0) }) ∧
      (let s := withDuty 5 dutyProfile (runIn .backoff (some 0)) foreign
       s.active = true ∧ Served s ∧ ¬Leave s 5) :=
  ⟨⟨rfl, fun _ => rfl, by rintro (h | h) <;> revert h <;> decide +kernel⟩, ⟨rfl, fun _ => rfl, .inl rfl, losing_namesLost _⟩,
    ⟨rfl, fun _ => rfl, .inl rfl, no_list_namesLost _⟩, ⟨rfl, fun _ => rfl, .inl rfl, rfl⟩,
    rfl, fun _ => rfl, by rintro (h | h) <;> revert h <;> decide +kernel⟩

/-- Tries left; the last try of the first and of the last round; the last try of a probe in CHECKING. -/
theorem witness_Window_expiry_counts_tries_and_rounds :
    (let r := { runIn .awaiting (some 0) with triesUsed := 1 }
     r.state = .awaiting ∧ r.timer.isSome = true ∧ (runIn .awaiting (some 0)).triesUsed + 1 < (runIn .awaiting (some 0)).triesAllowed ∧
       r.triesAllowed ≤ r.triesUsed + 1 ∧
       ¬(dutyProfile.roundsLimit ≠ 0 ∧ dutyProfile.roundsLimit ≤ min (r.failedRounds + 1) 255)) ∧
      (let r := { runIn .awaiting (some 0) with triesUsed := 1, failedRounds := 1 }
       dutyProfile.roundsLimit ≠ 0 ∧ dutyProfile.roundsLimit ≤ min (r.failedRounds + 1) 255) ∧
      (let s := awaiting dutyProfile proxying
       s.active = true ∧ Served s ∧ NetInv s ∧ ¬(s.net = .checking ∧ (s.duties[(5 : Fin 12)]).probe = true)) ∧
      (let s := checking { runIn .awaiting (some 0) with triesUsed := 1 } .up .checking
       s.active = true ∧ Served s ∧ NetInv s ∧ s.net = .checking ∧ (s.duties[(5 : Fin 12)]).probe = true ∧
         s.signature = some someSignature) :=
  ⟨by decide, by decide, ⟨rfl, fun _ => rfl, ⟨by decide +kernel, fun _ => by decide +kernel, fun _ _ => .inl rfl, nofun⟩,
    by decide +kernel⟩, rfl, fun _ => rfl, checking_net _ _ _ (by decide), rfl, rfl, rfl⟩

/-! #### The Answer Builder and transmission -/

/-- Each kind of patch ending at the last byte of a 14-byte buffer. -/
theorem witness_Patches_write_their_bytes :
    let buf : List Byte := List.replicate 14 0x11
    11 + 3 ≤ buf.length ∧ 8 + 6 ≤ buf.length ∧
      (working.entries[(0 : Fin 16)] = some (entryIn (.short 0xC0000201) .defended) ∧
        10 + (NetAddr.short 0xC0000201).kind.size ≤ buf.length) ∧
      (({ request := [], matched := some (.short 1), counter := 0 } : BuildOperands).matched = some (.short 1)) ∧
      13 < buf.length ∧ (4 ≤ 4 ∧ 10 + 4 ≤ buf.length) ∧ 12 + 2 ≤ buf.length := by decide +kernel

/-- The SUM16 patches of the spec's worked answer: SHORT at 26 and 30 with store 40, NONE with store 24; a store field outside its
range. -/
theorem witness_Checksums_verify_and_frames_are_finished :
    (let buf : List Byte := List.replicate 42 0x11
     (40 + 2 ≤ buf.length ∧ 42 - 34 ≤ 1514 ∧ 34 ≤ 40 ∧ (40 - 34) % 2 = 0 ∧ 40 + 2 ≤ 42 ∧ 42 ≤ buf.length ∧
        (26 + 4 ≤ 40 ∨ 40 + 2 ≤ 26) ∧ (30 + 4 ≤ 40 ∨ 40 + 2 ≤ 30)) ∧
      (14 ≤ 24 ∧ (24 - 14) % 2 = 0 ∧ 24 + 2 ≤ 34 ∧ 34 ≤ buf.length ∧ 34 - 14 ≤ 1514) ∧
      (0 + 2 ≤ buf.length ∧ ¬34 ≤ 0)) ∧
      (14 ≤ (List.replicate 14 (0 : Byte)).length ∧ (List.replicate 1514 (0 : Byte)).length ≤ 1514) ∧
      (proxying.station.vlan = none ∧ onVlan.station.vlan = some 4) ∧
      (let buf : List Byte := List.replicate 42 0x11
       26 + 4 ≤ buf.length ∧ 26 + 16 ≤ buf.length ∧ 0 + 16 ≤ buf.length ∧ 8 ≤ 1514) ∧
      (PoolInv working ∧ (0, List.replicate 14 0x11) ∈ working.pool ∧ dutyProfile.template = 0) :=
  ⟨by decide, ⟨by decide, Nat.le_of_eq List.length_replicate⟩, ⟨rfl, rfl⟩, by decide, working_inv.pool, by decide +kernel, rfl⟩

theorem witness_Transmit_result_completes_an_answer :
    (proxying.proxy ≠ .handback ∧ someInFlight proxying.queue = false) ∧
      (working.active = true ∧ working.queue = [] ++ answerEntry true :: [{ answerEntry false with cls := .ordinary }] ∧
        (∀ x ∈ ([] : List TxEntry), x.inFlight = false) ∧ (answerEntry true).inFlight = true ∧
        (answerEntry true).origin = .rule 0) := by
  decide +kernel

/-- An entry a duty's try makes. -/
def dutyEntry (d : Fin 12) : TxEntry := { origin := .duty d, cls := .duty, frame := List.replicate 60 0x11, inFlight := true }

/-- A part with a QUEUED duty of a profile whose frame is in flight. -/
def sending (p : DutyProfile) (r : DutyRun) : State := { withDuty 5 p r proxying with queue := [dutyEntry 5] }

/-- A QUEUED duty on its last try, after some failed rounds. -/
def lastTry (rounds : Nat) : DutyRun := { runIn .queued none with triesUsed := 1, failedRounds := rounds }

/-- Both results without the mark, with and without a reply pattern; the mark; tries left; the last try below and at the rounds
limit, and of a probe in CHECKING. -/
theorem witness_Transmit_result_moves_a_duty :
    (let s := sending dutyProfile (runIn .queued none)
     s.active = true ∧ s.queue = [] ++ dutyEntry 5 :: [] ∧ (∀ x ∈ ([] : List TxEntry), x.inFlight = false) ∧
       (dutyEntry 5).inFlight = true ∧ (dutyEntry 5).origin = .duty 5 ∧
       (s.duties[(5 : Fin 12)]).duty = some { profile := dutyProfile, run := runIn .queued none } ∧
       (runIn .queued none).state = .queued ∧ (runIn .queued none).void = false ∧ dutyProfile.reply.isSome = true ∧
       (runIn .queued none).triesUsed + 1 < (runIn .queued none).triesAllowed) ∧
      ((sending { dutyProfile with reply := none, reject := none } (runIn .queued none)).duties[(5 : Fin 12)]).duty.map
        (fun u => u.profile.reply) = some none ∧
      ((sending dutyProfile { runIn .queued none with void := true }).duties[(5 : Fin 12)]).duty.map
        (fun u => u.run.void) = some true ∧
      ((lastTry 0).triesAllowed ≤ (lastTry 0).triesUsed + 1 ∧ (lastTry 0).void = false ∧
        ¬(dutyProfile.roundsLimit ≠ 0 ∧ dutyProfile.roundsLimit ≤ min ((lastTry 0).failedRounds + 1) 255) ∧
        dutyProfile.roundsLimit ≠ 0 ∧ dutyProfile.roundsLimit ≤ min ((lastTry 1).failedRounds + 1) 255 ∧
        ¬(sending dutyProfile (lastTry 0)).net = .checking) ∧
      (let s := { checking (lastTry 0) .up .checking with queue := [dutyEntry 5] }
       s.active = true ∧ NetInv s ∧ s.net = .checking ∧ (s.duties[(5 : Fin 12)]).probe = true ∧
         s.signature = some someSignature) :=
  ⟨by decide +kernel, by decide +kernel, by decide +kernel, by decide +kernel, rfl,
    let n := checking_net (lastTry 0) .up .checking (by decide)
    ⟨n.flags, n.link, n.signature, n.probe⟩, rfl, rfl, rfl⟩

/-- A frame to hand over, and none; a full queue; a BLOCKED duty that takes a place, one without leave, and one that names a LOST
entry. -/
theorem witness_Queue_hands_over_frames_and_places :
    (let s := { proxying with queue := [answerEntry false] }
     s.active = true ∧ s.queue = answerEntry false :: [] ∧ someInFlight s.queue = false) ∧
      (proxying.queue = [] ∧ someInFlight working.queue = true) ∧
      (let s := behind 7 (withDuty 5 dutyProfile (runIn .blocked none) proxying)
       s.active = true ∧ 8 ≤ s.queue.length) ∧
      (let s := behind 6 (withDuty 5 dutyProfile (runIn .blocked none) proxying)
       s.active = true ∧ s.queue.length < 8 ∧
         (s.duties[(5 : Fin 12)]).duty = some { profile := dutyProfile, run := runIn .blocked none } ∧ Leave s 5 ∧
         ¬NamesLost s dutyProfile.patchList ∧ ∀ k : Fin 12, k < 5 → ∀ x ∈ (s.duties[k]).duty, x.run.state ≠ .blocked) ∧
      (let s := behind 6 (withDuty 5 dutyProfile (runIn .blocked none) foreign)
       s.active = true ∧ ¬Leave s 5) ∧
      (let s := losing (runIn .blocked none)
       s.active = true ∧ s.queue.length < 8 ∧ Leave s 5 ∧ NamesLost s (some 1)) :=
  ⟨by decide +kernel, by decide +kernel, by decide +kernel,
    ⟨rfl, by decide +kernel, rfl, .inl rfl, no_list_namesLost _, by decide +kernel⟩,
    ⟨rfl, by rintro (h | h) <;> revert h <;> decide +kernel⟩, rfl, by decide +kernel, .inl rfl, losing_namesLost _⟩

/-! #### Link changes -/

theorem witness_Link_down_removes_and_defers :
    (idle.active = false ∧ idle.linkState ≠ .up ∧ idle.linkState ≠ .down) ∧
      (proxying.linkState = .up ∧ { proxying with linkState := .down }.linkState = .down) ∧
      (working.active = true ∧ working.linkState ≠ .down ∧ working.net ≠ .linkDown ∧
        ∀ d : Fin 12, ∀ u ∈ (working.duties[d]).duty, u.run.state ≠ .blocked) ∧
      (let s := behind 7 (withDuty 5 dutyProfile (runIn .blocked none) proxying)
       s.active = true ∧ s.linkState ≠ .down ∧ s.net ≠ .linkDown ∧ (s.queue.countP fun e => e.inFlight) < 8) ∧
      (let s := { proxying with linkState := .unknown, net := .linkDown }
       s.active = true ∧ s.linkState ≠ .down ∧ s.net = .linkDown ∧ Served s) :=
  ⟨by decide +kernel, by decide +kernel, by decide +kernel, by decide +kernel, rfl, by decide, rfl, fun _ => rfl⟩

/-- Two DEFERRED duties: duty 2 without a duty below it, with each pending step. -/
def deferredTwo (step : PendingStep) : State :=
  withDuty 2 dutyProfile { runIn .deferred none with pending := some step }
    (withDuty 5 dutyProfile { runIn .deferred none with pending := some .try_ } proxying)

/-- No duty to resume; the lowest of two with each pending step; one that names a LOST entry; a probe WAITING, and one whose frame
is in flight. -/
theorem witness_Link_up_resumes_or_probes :
    (let s := { proxying with linkState := .down, net := .linkDown }
     s.active = true ∧ s.linkState ≠ .up ∧ s.net = .linkDown ∧ s.signature = none) ∧
      (proxying.active = true ∧ ∀ k : Fin 12, ∀ x ∈ (proxying.duties[k]).duty, x.run.state ≠ .deferred) ∧
      (∀ step : PendingStep,
        (deferredTwo step).active = true ∧ Leave (deferredTwo step) 2 ∧
          ((deferredTwo step).duties[(2 : Fin 12)]).duty =
            some { profile := dutyProfile, run := { runIn .deferred none with pending := some step } } ∧
          (∀ k : Fin 12, k < 2 → ((deferredTwo step).duties[k]).duty = none) ∧
          ¬NamesLost (deferredTwo step) dutyProfile.patchList) ∧
      (let s := losing { runIn .deferred none with pending := some .newRun }
       s.active = true ∧ Leave s 5 ∧ NamesLost s (some 1)) ∧
      (let s := checking (runIn .waiting (some 5)) .down .linkDown
       s.active = true ∧ s.linkState ≠ .up ∧ s.net = .linkDown ∧ NetInv s ∧ s.signature = some someSignature ∧
         (s.duties[someSignature.probeDuty]).duty = some { profile := dutyProfile, run := runIn .waiting (some 5) }) ∧
      (let s := { checking { runIn .queued none with void := true } .down .linkDown with queue := [dutyEntry 5] }
       s.active = true ∧ ∃ e ∈ s.queue, e.inFlight = true ∧ e.origin = .duty someSignature.probeDuty) :=
  ⟨by decide +kernel, by decide +kernel,
    fun step => ⟨rfl, .inl rfl, by cases step <;> rfl, by cases step <;> decide +kernel, no_list_namesLost _⟩,
    ⟨rfl, .inl rfl, losing_namesLost _⟩, ⟨rfl, by decide, rfl, checking_net _ _ _ (by decide), rfl, rfl⟩, rfl,
    by decide +kernel⟩

/-! #### The Wake Unit, the Load Governor and the timers -/

/-- A lane below, at and above its threshold; with and without the settle hold; a reason set empty and not. -/
theorem witness_Additions_raise_lanes_and_may_wake :
    idle.active = false ∧ (65535 ≠ 0 ∧ proxying.active = true ∧ waking.active = true) ∧
      ({ proxying with settleTimer := some 1 }.settleTimer.isSome = true ∧ proxying.settleTimer = none) ∧
      proxying.reasons = 0 ∧ waking.reasons ≠ 0 := by decide +kernel

theorem witness_Lanes_decay_and_the_settle_hold_evaluates :
    (proxying.active = true ∧ proxying.decayTimer.isSome = true) ∧
      (let s := { proxying with
         settleTimer := some 0
         lanes := proxying.lanes.set 7 10
         laneSettings := proxying.laneSettings.set 7 { threshold := 10, mode := .shift, shift := 0, step := 0 } }
       s.active = true ∧ s.settleTimer.isSome = true ∧ s.reasons = 0 ∧
         (s.laneSettings[(7 : Fin 8)]).threshold ≠ 0 ∧ (s.laneSettings[(7 : Fin 8)]).threshold ≤ s.lanes[(7 : Fin 8)] ∧
         s.station.totalThreshold = 0) := by decide +kernel

/-- A part whose storm level is 64, at a window count and a storm vote. -/
def stormAt (count vote : Nat) : State :=
  { proxying with windowCount := count, stormVote := vote, curve := { Curve.default with stormLevel := 64, stormWeight := 9 } }

/-- Counts 255 and 256, a storm level of 0, a count one below and at the storm level, a vote of 1 and of 2. -/
theorem witness_Load_window_moves_the_budget_and_votes :
    ((stormAt 256 2).active = true ∧ (stormAt 256 2).windowTimer.isSome = true ∧ 256 ≤ (stormAt 256 2).windowCount ∧
      32 = (stormAt 256 2).curve.points[8] ∧ ∀ k : Fin 8, (stormAt 256 2).windowCount / 32 ≠ k.val) ∧
      ((stormAt 255 0).windowCount / 32 = (7 : Fin 8).val ∧ ¬256 ≤ (stormAt 255 0).windowCount ∧
        ∀ k : Fin 8, (32 : Int) = (stormAt 255 0).curve.points[k.val]
          + (((stormAt 255 0).curve.points[k.val + 1] : Int) - (stormAt 255 0).curve.points[k.val])
            * (((stormAt 255 0).windowCount % 32 : Nat) : Int) / 32) ∧
      proxying.curve.stormLevel = 0 ∧
      ((stormAt 63 1).curve.stormLevel ≠ 0 ∧ (stormAt 63 1).windowCount < (stormAt 63 1).curve.stormLevel) ∧
      ((stormAt 64 1).curve.stormLevel ≤ (stormAt 64 1).windowCount ∧ (stormAt 64 1).stormVote < 2) ∧
      ((stormAt 64 2).curve.stormLevel ≤ (stormAt 64 2).windowCount ∧ 2 ≤ (stormAt 64 2).stormVote) := by decide +kernel

theorem witness_Address_and_wake_timers_expire :
    (let e := { entryIn (.short 1) .tentative with tentativeTimer := some 0 }
     let s := { proxying with entries := proxying.entries.set 4 (some e) }
     s.active = true ∧ s.entries[(4 : Fin 16)] = some e ∧ e.state = .tentative ∧ e.tentativeTimer.isSome = true) ∧
      (let e := { entryIn (.short 1) .contested with contestTimer := some 0 }
       e.state = .contested ∧ e.contestTimer.isSome = true) ∧
      (let s := { waking with resignals := 2 }
       s.proxy = .waking ∧ s.patienceTimer.isSome = true ∧ s.resignals < 3) ∧
      (let s := { waking with wake := false, patienceTimer := none, gapTimer := some 0, resignals := 1 }
       s.proxy = .waking ∧ s.gapTimer.isSome = true ∧ s.resignals + 1 < 3) ∧
      (let s := { waking with wake := false, patienceTimer := none, gapTimer := some 0, resignals := 2 }
       s.gapTimer.isSome = true ∧ s.resignals + 1 = 3) := by decide +kernel

theorem witness_Elapsed_time_counts_and_timers_run_down :
    idle.proxy = .idle ∧ reporting.proxy = .report ∧ handingBack.proxy = .handback ∧ working.active = true := by decide

end Sys2Proof.Tests
end

section
/-! SUPPORT. Received frames that no duty takes (chapter 2): where such a frame's path ends, by R31, R36, R37 and R12, and what
the actions NOTE, DROP and HOLD do; then the obligations O39 and O40. -/

namespace Sys2Proof.Machine

variable {s t : State} {frame f : Frame} {c : DestClass} {i : Fin 32} {m : Option (Fin 16)}

/-! ### The counts a frame meets on its way in -/

/-- The state once a frame is counted as received (R22). -/
def countReceived (s : State) : State :=
  { s with stats := { s.stats with received := min (s.stats.received + 1) 4294967295 } }

/-- Load counting (R28) after the received count gives the state the statements call entered. -/
theorem countLoad_countReceived (c : DestClass) (s : State) : countLoad c (countReceived s) = entered c s := by
  cases c <;> rfl

@[simp] theorem entered_net (c : DestClass) (s : State) : (entered c s).net = s.net := rfl
@[simp] theorem entered_queue (c : DestClass) (s : State) : (entered c s).queue = s.queue := rfl
@[simp] theorem countReceived_queue (s : State) : (countReceived s).queue = s.queue := rfl

/-- The duty offer reads the duties and the network state alone, which the counts leave as they stand. -/
@[simp] theorem offeredDuty_entered (c : DestClass) (s : State) (f : Frame) :
    offeredDuty (entered c s) f = offeredDuty s f := rfl

/-- The rule walk reads the rules and the entries alone, which the counts leave as they stand. -/
@[simp] theorem walkRules_entered (c : DestClass) (s : State) (f : Frame) :
    walkRules (entered c s) c f = walkRules s c f := rfl

@[simp] theorem walkRules_countReceived (c : DestClass) (s : State) (f : Frame) :
    walkRules (countReceived s) c f = walkRules s c f := rfl

/-! ### The event: an intake that leaves the queue alone sends nothing -/

theorem Served.startTransmit_eq (h : Served s) (hq : t.queue = s.queue) : startTransmit t = t :=
  startTransmit_of_served t (by rw [hq]; exact h)

theorem exec_receivedFrame_of_classify (ha : s.active = true ∨ s.proxy = .handback) (hs : Served s)
    (hc : classify frame s = t) (hq : t.queue = s.queue) : exec (.receivedFrame frame) s = .next t := by
  have heard : (s.active || s.proxy == .handback) = true := by simpa using ha
  calc exec (.receivedFrame frame) s = .next (receiveFrame frame s) := rfl
    _ = .next (startTransmit (classify frame s)) := by rw [receiveFrame, if_pos heard]
    _ = .next t := by rw [hc, hs.startTransmit_eq hq]

/-! ### Past the destination stage -/

theorem not_handback_of_active (h : s.active = true) : s.proxy ≠ .handback := by
  intro hp
  simp [State.active, hp] at h

theorem classify_of_dest (n : normalise frame = some (f, s.station.vlan)) (d : destClass s f = some c) :
    classify frame s =
      if s.proxy == .handback then classifyHandback c f (countReceived s) else classifyActive c f (countReceived s) := by
  simp only [classify, n, d, ne_eq, not_true_eq_false, if_false]
  rfl

theorem classify_active (h : Arrives s frame f c) : classify frame s = classifyActive c f (countReceived s) := by
  have hp := not_handback_of_active h.active
  rw [classify_of_dest h.normal h.dest, if_neg (by simpa using hp)]

theorem classify_handback (hp : s.proxy = .handback) (n : normalise frame = some (f, s.station.vlan))
    (d : destClass s f = some c) : classify frame s = classifyHandback c f (countReceived s) := by
  rw [classify_of_dest n d, if_pos (by simpa using hp)]

section Active

variable (h : Arrives s frame f c) (hd : offeredDuty s f = none)
include h hd

/-- Outside ATTACHED the walk is not made (R31). -/
theorem classify_muted (hn : s.net ≠ .attached) :
    classify frame s = (entered c s).count fun t => { t with muted := satAdd32 t.muted 1 } := by
  rw [classify_active h]
  simp [classifyActive, countLoad_countReceived, hd, hn]

theorem classify_unmatched (hn : s.net = .attached) (hw : walkRules s c f = none) :
    classify frame s = (entered c s).count fun t => { t with unmatched := satAdd32 t.unmatched 1 } := by
  rw [classify_active h]
  simp [classifyActive, countLoad_countReceived, hd, hn, hw]

theorem classify_dispatch (hn : s.net = .attached) (hw : walkRules s c f = some (i, m)) :
    classify frame s = dispatch i f m (entered c s) := by
  rw [classify_active h]
  simp [classifyActive, countLoad_countReceived, hd, hn, hw]

end Active

section Handback

variable (hp : s.proxy = .handback) (n : normalise frame = some (f, s.station.vlan)) (d : destClass s f = some c)
include hp n d

theorem classify_handback_unmatched (hw : walkRules s c f = none) :
    classify frame s = (countReceived s).count fun t => { t with unmatched := satAdd32 t.unmatched 1 } := by
  rw [classify_handback hp n d]
  simp [classifyHandback, hw]

theorem classify_handback_dispatch (hw : walkRules s c f = some (i, m)) :
    classify frame s = dispatchHandback i f (countReceived s) := by
  rw [classify_handback hp n d]
  simp [classifyHandback, hw]

end Handback

/-! ### The actions NOTE, DROP and HOLD -/

theorem dispatch_of_note_or_drop (ha : (s.rules[i]).action = .note ∨ (s.rules[i]).action = .drop) (f : Frame)
    (m : Option (Fin 16)) :
    dispatch i f m s = addWeight (s.rules[i]).lane (s.rules[i]).weight (countMatch i s) := by
  rcases ha with ha | ha <;> simp only [dispatch, act, ha]

theorem dispatch_of_hold (ha : (s.rules[i]).action = .hold) (f : Frame) (m : Option (Fin 16)) :
    dispatch i f m s = addWeight (s.rules[i]).lane (s.rules[i]).weight (actHold i f (countMatch i s)) := by
  simp only [dispatch, act, ha]

theorem dispatchHandback_of_hold (ha : (s.rules[i]).action = .hold) (f : Frame) :
    dispatchHandback i f s = actHold i f (countMatch i s) := if_pos ha

theorem dispatchHandback_of_not_hold (ha : (s.rules[i]).action ≠ .hold) (f : Frame) :
    dispatchHandback i f s = countMatch i s := if_neg ha

@[simp] theorem actHold_queue (i : Fin 32) (f : Frame) (s : State) : (actHold i f s).queue = s.queue := by
  unfold actHold
  split <;> rfl

/-! ### The obligations -/

/-- Settles O39: the intake's end for each case, and the queue, which no case touches, already served. -/
theorem muted_unmatched_noted_and_dropped_frames : Obligations.Muted_unmatched_noted_and_dropped_frames := by
  refine ⟨fun s frame f c h hs hd => ⟨fun hn => ?muted, fun hn hw => ?unmatched, fun i m hn hw ha => ?matched⟩,
    fun s frame f c hp hs n d => ⟨fun hw => ?handbackUnmatched, fun i m hw ha => ?handbackMatched⟩⟩
  case muted => exact exec_receivedFrame_of_classify (.inl h.active) hs (classify_muted h hd hn) rfl
  case unmatched => exact exec_receivedFrame_of_classify (.inl h.active) hs (classify_unmatched h hd hn hw) rfl
  case matched =>
    have hc := (classify_dispatch h hd hn hw).trans (dispatch_of_note_or_drop (s := entered c s) ha f m)
    exact exec_receivedFrame_of_classify (.inl h.active) hs hc (addWeight_queue _ _ _)
  case handbackUnmatched =>
    exact exec_receivedFrame_of_classify (.inr hp) hs (classify_handback_unmatched hp n d hw) rfl
  case handbackMatched =>
    have hc := (classify_handback_dispatch hp n d hw).trans (dispatchHandback_of_not_hold (s := countReceived s) ha f)
    exact exec_receivedFrame_of_classify (.inr hp) hs hc rfl

/-- Settles O40: the HOLD acts on the counted state, with the weight in PROXY and WAKING and without it in HANDBACK.
The statement's `matched` and `kept` are `countMatch` and `actHold` with the limits of the part written out. -/
theorem hold_keeps_the_frame_or_counts_it : Obligations.Hold_keeps_the_frame_or_counts_it := by
  intro s frame f c i m hs n d hw ha matched kept
  refine ⟨fun active hn hd => ?proxying, fun hp => ?handback⟩
  case proxying =>
    have h : Arrives s frame f c := ⟨active, n, d⟩
    have hc := (classify_dispatch h hd hn hw).trans (dispatch_of_hold (s := entered c s) ha f m)
    exact (exec_receivedFrame_of_classify (.inl active) hs hc (by simp) :)
  case handback =>
    have hc := (classify_handback_dispatch hp n d hw).trans (dispatchHandback_of_hold (s := countReceived s) ha f)
    exact (exec_receivedFrame_of_classify (.inr hp) hs hc (by simp) :)

end Sys2Proof.Machine
end

section
/-! SUPPORT. Put Template (R66): what a complete request into an empty reply slot comes to, and what a template's body is judged
to be; then the obligation O28. -/

namespace Sys2Proof.Machine

/-! ### A complete request into an empty reply slot -/

section Request

variable {k : RequestKind} {s : State} {tag : Byte} {body : List Byte}

theorem requestOf_stated_toNat (tag : Byte) (hb : body.length ≤ 1600) :
    (requestOf tag body).stated.toNat = body.length := by
  simp only [requestOf, BitVec.toNat_ofNat]
  omega

theorem requestOf_complete (tag : Byte) (hb : body.length ≤ 1600) : (requestOf tag body).complete = true := by
  rw [Request.complete, requestOf_stated_toNat tag hb]
  simp [requestOf]

/-- With the slot empty a request is examined and answered (R190, R191). -/
theorem takeRequest_requestOf (hr : s.reply = none) (hb : body.length ≤ 1600) :
    takeRequest k (requestOf tag body) s = settle k.kind tag (examine k (requestOf tag body) s) s := by
  rw [takeRequest, requestOf_complete tag hb, hr]
  rfl

/-- A complete request meets its state check and its size check, and then its own rule (R190). -/
theorem examine_requestOf (hb : body.length ≤ 1600) :
    examine k (requestOf tag body) s =
      if !k.accepts s.proxy then .refused .wrongState (k.refusalBody s)
      else if k.size.any (fun n => decide (n ≠ body.length)) then .refused .badLength (k.refusalBody s)
      else k.perform body s := by
  have fits : ¬(Config.bodyLimit < body.length ∨ body.length ≠ body.length) := by simpa [Config.bodyLimit] using hb
  rw [examine, requestOf_stated_toNat tag hb]
  exact if_neg fits

theorem examine_requestOf_of_not_accepts (hb : body.length ≤ 1600) (ha : k.accepts s.proxy = false) :
    examine k (requestOf tag body) s = .refused .wrongState (k.refusalBody s) := by
  rw [examine_requestOf hb, ha]
  rfl

theorem examine_requestOf_of_accepts (hb : body.length ≤ 1600) (ha : k.accepts s.proxy = true)
    (hs : ∀ n ∈ k.size, n = body.length) : examine k (requestOf tag body) s = k.perform body s := by
  have size : ¬k.size.any (fun n => decide (n ≠ body.length)) = true := by
    simpa [Option.any_eq_true] using hs
  rw [examine_requestOf hb, ha]
  exact if_neg size

end Request

/-! ### The first byte of a body -/

/-- A table's index in the first byte of a body (R200). -/
theorem readNat_oneByte_cons {n : Nat} (hn : n < 256) (rest : List Byte) : readNat (oneByte n :: rest) 0 1 = n := by
  simp [readNat, slice, natOfBytes_cons, oneByte, Nat.mod_eq_of_lt hn]

theorem badIndexAt_oneByte_cons {n : Nat} (hn : n < 256) (rest : List Byte) (places : Nat) :
    badIndexAt (oneByte n :: rest) 0 places = decide (places ≤ n) := by
  simp [badIndexAt, field?, readNat_oneByte_cons hn]

/-! ### The judgement of a Put Template body -/

section PutTemplate

variable {s : State} {tag : Byte} {id : Fin 48} {bytes body : List Byte} {st : Status}

theorem parseTemplate_of_badIndex {n : Nat} (hn : 48 ≤ n) (h : n < 256) (rest : List Byte) :
    parseTemplate (oneByte n :: rest) = .error .badIndex := by
  rw [parseTemplate, badIndexAt_oneByte_cons h, decide_eq_true hn]
  rfl

/-- A template's body passes the index check, and then stands or falls by its length (R66). -/
theorem parseTemplate_templateBody (id : Fin 48) (bytes : List Byte) :
    parseTemplate (templateBody id bytes) =
      if bytes.length < 14 ∨ 1514 < bytes.length then .error .badLength else .ok (id, bytes) := by
  have hid : id.val < 256 := by omega
  have index : ¬48 ≤ id.val := by omega
  have length : bytes.length + 1 < 15 ∨ 1515 < bytes.length + 1 ↔ bytes.length < 14 ∨ 1514 < bytes.length := by omega
  rw [templateBody, parseTemplate]
  simp only [refuseIf, badIndexAt_oneByte_cons hid, readNat_oneByte_cons hid, index, decide_false, Bool.false_eq_true,
    if_false, Bool.or_eq_true, decide_eq_true_eq, List.length_cons, length, Fin.ofNat_val_eq_self, List.drop_one,
    List.tail_cons]

theorem template?_isSome_iff (s : State) (id : Fin 48) : (template? s id).isSome = true ↔ ∃ t ∈ s.pool, t.1 = id := by
  simp [template?]

/-- What a Put Template body read by `parseTemplate` comes to in IDLE (R66). -/
def judgeTemplate (body : List Byte) (s : State) : Verdict :=
  verdictOf (parseTemplate body) (freeBytesBody s) fun (id, bytes) =>
    if (template? s id).isSome then .refused .duplicate (freeBytesBody s)
    else if freePoolBytes s < bytes.length then .refused .noSpace (freeBytesBody s)
    else .performed { s with pool := s.pool ++ [(id, bytes)] } false
      (freeBytesBody { s with pool := s.pool ++ [(id, bytes)] })

theorem judgeTemplate_of_error (h : parseTemplate body = .error st) :
    judgeTemplate body s = .refused st (freeBytesBody s) := by
  rw [judgeTemplate, h]
  rfl

theorem judgeTemplate_of_badLength (h : bytes.length < 14 ∨ 1514 < bytes.length) :
    judgeTemplate (templateBody id bytes) s = .refused .badLength (freeBytesBody s) :=
  judgeTemplate_of_error (by rw [parseTemplate_templateBody, if_pos h])

section Sized

variable (hlo : 14 ≤ bytes.length) (hhi : bytes.length ≤ 1514)
include hlo hhi

theorem parseTemplate_of_sized : parseTemplate (templateBody id bytes) = .ok (id, bytes) := by
  rw [parseTemplate_templateBody, if_neg (by omega)]

theorem judgeTemplate_of_loaded (h : ∃ t ∈ s.pool, t.1 = id) :
    judgeTemplate (templateBody id bytes) s = .refused .duplicate (freeBytesBody s) := by
  rw [judgeTemplate, parseTemplate_of_sized hlo hhi]
  exact if_pos ((template?_isSome_iff s id).2 h)

theorem judgeTemplate_of_fresh (h : ∀ t ∈ s.pool, t.1 ≠ id) :
    judgeTemplate (templateBody id bytes) s =
      if freePoolBytes s < bytes.length then .refused .noSpace (freeBytesBody s)
      else .performed { s with pool := s.pool ++ [(id, bytes)] } false
        (freeBytesBody { s with pool := s.pool ++ [(id, bytes)] }) := by
  have absent : ¬(template? s id).isSome = true := by
    rw [template?_isSome_iff]
    rintro ⟨t, ht, e⟩
    exact h t ht e
  rw [judgeTemplate, parseTemplate_of_sized hlo hhi]
  exact if_neg absent

end Sized

/-- A stored template takes its length from the free bytes (R66). -/
theorem freePoolBytes_load (s : State) (id : Fin 48) (bytes : List Byte) :
    freePoolBytes { s with pool := s.pool ++ [(id, bytes)] } = freePoolBytes s - bytes.length := by
  simp [freePoolBytes, poolUsed, Nat.sub_sub]

theorem exec_putTemplate_of_idle (hr : s.reply = none) (hp : s.proxy = .idle) (hb : body.length ≤ 1600) :
    exec (.putTemplate (requestOf tag body)) s = .next (settle 0x05 tag (judgeTemplate body s) s) := by
  change execPutTemplate _ s = _
  rw [execPutTemplate, takeRequest_requestOf hr hb, examine_requestOf_of_accepts hb (by simp [inIdle, hp]) (by simp)]
  rfl

/-- A refused judgement leaves the state and answers with the free bytes (R66, R196). -/
theorem exec_putTemplate_of_refused (hr : s.reply = none) (hp : s.proxy = .idle) (hb : body.length ≤ 1600)
    (hj : judgeTemplate body s = .refused st (freeBytesBody s)) :
    exec (.putTemplate (requestOf tag body)) s =
      .next { s with reply := some (refusal 0x05 tag st (freeBytesBody s)) } := by
  rw [exec_putTemplate_of_idle hr hp hb, hj]
  rfl

theorem exec_putTemplate_of_not_idle (hr : s.reply = none) (hp : s.proxy ≠ .idle) (hb : body.length ≤ 1600) :
    exec (.putTemplate (requestOf tag body)) s =
      .next { s with reply := some (refusal 0x05 tag .wrongState (freeBytesBody s)) } := by
  change execPutTemplate _ s = _
  rw [execPutTemplate, takeRequest_requestOf hr hb, examine_requestOf_of_not_accepts hb (by simp [inIdle, hp])]
  rfl

end PutTemplate

/-- Settles O28: the judgement of the body, settled into the slot. -/
theorem put_Template_loads_or_refuses : Obligations.Put_Template_loads_or_refuses := by
  intro s tag id bytes hr short
  have hb : (templateBody id bytes).length ≤ 1600 := short
  refine ⟨fun hp => exec_putTemplate_of_not_idle hr hp hb, fun hp h => ?badLength,
    fun hp hlo hhi => ⟨fun h => ?loaded, fun h full => ?full, fun h room => ?stored⟩, fun hp n hn h => ?badIndex⟩
  case badLength => exact exec_putTemplate_of_refused hr hp hb (judgeTemplate_of_badLength h)
  case loaded => exact exec_putTemplate_of_refused hr hp hb (judgeTemplate_of_loaded hlo hhi h)
  case full =>
    exact exec_putTemplate_of_refused hr hp hb ((judgeTemplate_of_fresh hlo hhi h).trans (if_pos full))
  case stored =>
    have hj := (judgeTemplate_of_fresh hlo hhi h).trans (if_neg (Nat.not_lt.2 room))
    rw [exec_putTemplate_of_idle hr hp hb, hj, freeBytesBody, freePoolBytes_load]
    rfl
  case badIndex =>
    exact exec_putTemplate_of_refused hr hp short (judgeTemplate_of_error (parseTemplate_of_badIndex hn h bytes))

end Sys2Proof.Machine
end

section
/-! SUPPORT. The patches of a build (R71 to R76): what writing over a byte list leaves at each place, the bytes each kind of patch
writes, and the buffer it makes; then the obligation O49. -/

namespace Sys2Proof.Machine

/-! ### Writing over a byte list, place by place -/

theorem overlay_getD_inside {bs ws : List Byte} {off k : Nat} (fits : off + ws.length ≤ bs.length) (hk : k < ws.length) :
    (overlay bs off ws).getD (off + k) 0 = ws.getD k 0 := by
  have hoff : (bs.take off).length = off := List.length_take_of_le (by omega)
  rw [overlay_eq bs off ws fits, List.append_assoc, List.getD_append_right _ _ _ _ (by omega), hoff,
    Nat.add_sub_cancel_left, List.getD_append _ _ _ _ hk]

theorem overlay_getD_outside {bs ws : List Byte} {off k : Nat} (fits : off + ws.length ≤ bs.length)
    (hk : k < off ∨ off + ws.length ≤ k) : (overlay bs off ws).getD k 0 = bs.getD k 0 := by
  have hoff : (bs.take off).length = off := List.length_take_of_le (by omega)
  rw [overlay_eq bs off ws fits, List.append_assoc]
  rcases hk with before | after
  · rw [List.getD_append _ _ _ _ (by omega)]
    simp [List.getD_eq_getElem?_getD, before]
  · rw [List.getD_append_right _ _ _ _ (by omega), List.getD_append_right _ _ _ _ (by omega)]
    simp only [List.getD_eq_getElem?_getD, List.getElem?_drop, hoff]
    congr 2
    omega

/-! ### The bytes a patch writes -/

@[simp] theorem copyBytes_length (request : Frame) (source count : Nat) : (copyBytes request source count).length = count := by
  simp [copyBytes]

theorem copyBytes_getD (request : Frame) (source : Nat) {count k : Nat} (hk : k < count) :
    (copyBytes request source count).getD k 0 = request.getD (source + k) 0 := by
  simp [copyBytes, List.getD_eq_getElem?_getD, hk]

@[simp] theorem bytesOfBits_length {n : Nat} (w : Nat) (v : BitVec n) : (bytesOfBits w v).length = w :=
  bytesOfNat_length w v.toNat

@[simp] theorem NetAddr.bytes_length (v : NetAddr) : v.bytes.length = v.kind.size := by
  cases v with
  | short v => exact bytesOfBits_length 4 v
  | long v => exact bytesOfBits_length 16 v

/-- A number's low bytes stand last in its layout. -/
theorem drop_bytesOfNat (k w n : Nat) : (bytesOfNat w n).drop k = bytesOfNat (w - k) n := by
  induction k generalizing w with
  | zero => simp
  | succ k ih =>
    cases w with
    | zero => simp [bytesOfNat]
    | succ w => rw [bytesOfNat, List.drop_succ_cons, ih, Nat.add_sub_add_right]

theorem drop_bytesOfBits {n width : Nat} (v : BitVec n) (h : width ≤ 4) :
    (bytesOfBits 4 v).drop (4 - width) = bytesOfBits width v := by
  rw [bytesOfBits, drop_bytesOfNat, Nat.sub_sub_self h, bytesOfBits]

/-- The byte a SET_MASKED patch makes, bit by bit (R74). -/
theorem masked_getLsbD (data mask old : Byte) {k : Nat} (hk : k < 8) :
    (data &&& mask ||| old &&& ~~~mask).getLsbD k = if mask.getLsbD k then data.getLsbD k else old.getLsbD k := by
  simp only [BitVec.getLsbD_or, BitVec.getLsbD_and, BitVec.getLsbD_not, hk]
  cases mask.getLsbD k <;> simp

/-! ### Each kind of patch -/

section Patches

variable {s : State} {ops : BuildOperands} {buf : List Byte} {dest : Nat}

theorem applyPatch_copy_getD_inside {count k : Nat} (source : Nat) (fits : dest + count ≤ buf.length) (hk : k < count) :
    (applyPatch s ops buf (.copy source dest count)).getD (dest + k) 0 = ops.request.getD (source + k) 0 := by
  rw [applyPatch, overlay_getD_inside (by simpa using fits) (by simpa using hk), copyBytes_getD _ _ hk]

theorem applyPatch_copy_getD_outside {count k : Nat} (source : Nat) (fits : dest + count ≤ buf.length)
    (hk : k < dest ∨ dest + count ≤ k) : (applyPatch s ops buf (.copy source dest count)).getD k 0 = buf.getD k 0 := by
  rw [applyPatch, overlay_getD_outside (by simpa using fits) (by simpa using hk)]

theorem applyPatch_ownLink (fits : dest + 6 ≤ buf.length) :
    applyPatch s ops buf (.ownLink dest) =
      buf.take dest ++ bytesOfBits 6 s.station.ownAddr ++ buf.drop (dest + 6) := by
  rw [applyPatch, overlay_eq _ _ _ (by simpa using fits), bytesOfBits_length]

theorem overlay_netAddr (v : NetAddr) (fits : dest + v.kind.size ≤ buf.length) :
    overlay buf dest v.bytes = buf.take dest ++ v.bytes ++ buf.drop (dest + v.kind.size) := by
  rw [overlay_eq _ _ _ (by simpa using fits), NetAddr.bytes_length]

theorem applyPatch_fillEntry_index {i : Fin 16} {e : AddrEntry} (he : s.entries[i] = some e) :
    applyPatch s ops buf (.fillEntry dest (.index i)) = overlay buf dest e.value.bytes := by
  simp only [applyPatch, he]

theorem applyPatch_fillEntry_matched {v : NetAddr} (hv : ops.matched = some v) :
    applyPatch s ops buf (.fillEntry dest .matched) = overlay buf dest v.bytes := by
  simp only [applyPatch, hv]

theorem applyPatch_setMasked (data mask : Byte) (fits : dest < buf.length) :
    applyPatch s ops buf (.setMasked dest data mask) =
      buf.take dest ++ (data &&& mask ||| buf.getD dest 0 &&& ~~~mask) :: buf.drop (dest + 1) := by
  rw [applyPatch, overlay_eq _ _ _ (by simpa using fits), List.append_assoc]
  rfl

theorem applyPatch_counter {width : Nat} (hw : width ≤ 4) (fits : dest + width ≤ buf.length) :
    applyPatch s ops buf (.counter dest width) =
      buf.take dest ++ (bytesOfBits 4 ops.counter).drop (4 - width) ++ buf.drop (dest + width) := by
  rw [applyPatch, overlay_eq _ _ _ (by simpa using fits), bytesOfBits_length, drop_bytesOfBits _ hw]

theorem applyPatch_length_field (base : Nat) (fits : dest + 2 ≤ buf.length) :
    applyPatch s ops buf (.length dest base) =
      buf.take dest ++ bytesOfNat 2 (buf.length - base) ++ buf.drop (dest + 2) := by
  rw [applyPatch, overlay_eq _ _ _ (by simpa using fits), bytesOfNat_length]

end Patches

/-- Settles O49: the rule of each kind of patch; a LENGTH base past the frame's end gives 0, as subtraction of naturals does. -/
theorem patches_write_their_bytes : Obligations.Patches_write_their_bytes := by
  intro s ops buf dest
  refine ⟨applyPatch_length s ops buf, fun source count fits => ?copy, applyPatch_ownLink,
    fun i e he fits => ?index, fun v hv fits => ?matched, fun data mask fits => ?setMasked,
    fun width hw fits => applyPatch_counter hw fits, fun base fits => ?length⟩
  case copy =>
    exact ⟨fun k hk => applyPatch_copy_getD_inside source fits hk, fun k hk => applyPatch_copy_getD_outside source fits hk⟩
  case index => rw [applyPatch_fillEntry_index he, overlay_netAddr e.value fits]
  case matched => rw [applyPatch_fillEntry_matched hv, overlay_netAddr v fits]
  case setMasked => exact ⟨_, applyPatch_setMasked data mask fits, fun k hk => masked_getLsbD data mask _ hk⟩
  case length =>
    have cut : buf.length - base = if base ≤ buf.length then buf.length - base else 0 := by split <;> omega
    rw [applyPatch_length_field base fits, ← cut]

end Sys2Proof.Machine
end

section
/-! SUPPORT. The action ANSWER (R38 to R40, R87, R88): when an answer is withheld, over budget or offered, and what the offer of each
class comes to; then the obligation O41. -/

namespace Sys2Proof.Machine

variable {s : State} {frame f : Frame} {c : DestClass} {i : Fin 32} {m : Option (Fin 16)} {r : Rule} {template : Fin 48}

/-! ### The action, branch by branch -/

/-- The test of R38 as the statement has it: the matched entry, where there is one, is DEFENDED or CONTESTED in mode ANSWER. -/
theorem mayAnswer_iff (s : State) (m : Option (Fin 16)) :
    mayAnswer s m = true ↔
      ∀ k ∈ m, ∃ e, s.entries[k] = some e ∧ (e.state = .defended ∨ e.state = .contested) ∧ e.mode = .answer := by
  cases m with
  | none => simp [mayAnswer]
  | some k => simp [mayAnswer, Option.any_eq_true]

theorem actAnswer_of_withheld (may : mayAnswer s m = false) :
    actAnswer i r f m s = s.count fun t => { t with withheld := satAdd32 t.withheld 1 } := by
  simp [actAnswer, may]

section Allowed

variable (may : mayAnswer s m = true)
include may

theorem actAnswer_of_overBudget (ordinary : r.cls = .ordinary) (spent : s.budget ≤ s.spent) :
    actAnswer i r f m s = s.count fun t => { t with overBudget := satAdd32 t.overBudget 1 } := by
  simp [actAnswer, may, ordinary, spent]

/-- An allowed answer is built and offered; the budget bounds the ORDINARY ones alone (R39, R40). -/
theorem actAnswer_of_offered (ht : r.template = some template) (within : r.cls = .ordinary → s.spent < s.budget) :
    actAnswer i r f m s =
      offerAnswer i r.cls (buildAnswer s template r.patchList f (entryValue s m)) s := by
  have notOver : ¬(r.cls = .ordinary ∧ s.budget ≤ s.spent) := fun ⟨ordinary, spent⟩ =>
    Nat.not_lt.2 spent (within ordinary)
  simp [actAnswer, answerWith, may, ht, notOver]

end Allowed

/-! ### The offer of an answer, class by class -/

theorem offerAnswer_ordinary_of_room (h8 : s.queue.length < 8) (h6 : ordinaryCount s.queue < 6) :
    offerAnswer i .ordinary f s = enqueue (.rule i) .ordinary f { s with spent := s.spent + 1 } := by
  rcases offerAnswer_cases i .ordinary f s with ⟨-, -, -, e⟩ | ⟨-, full, -⟩ | ⟨cls, -⟩ | ⟨cls, -⟩
  · exact e
  · omega
  · cases cls
  · cases cls

theorem offerAnswer_ordinary_of_full (full : 8 ≤ s.queue.length ∨ 6 ≤ ordinaryCount s.queue) :
    offerAnswer i .ordinary f s = s.count fun t => { t with queueFull := satAdd32 t.queueFull 1 } := by
  rcases offerAnswer_cases i .ordinary f s with ⟨-, h8, h6, -⟩ | ⟨-, -, e⟩ | ⟨cls, -⟩ | ⟨cls, -⟩
  · omega
  · exact e
  · cases cls
  · cases cls

theorem offerAnswer_essential_of_room (h8 : s.queue.length < 8) :
    offerAnswer i .essential f s = enqueue (.rule i) .essential f s := by
  rcases offerAnswer_cases i .essential f s with ⟨cls, -⟩ | ⟨cls, -⟩ | ⟨-, -, e⟩ | ⟨-, full, -⟩
  · cases cls
  · cases cls
  · exact e
  · omega

theorem offerAnswer_essential_of_full (full : 8 ≤ s.queue.length) :
    offerAnswer i .essential f s = s.count fun t => { t with essentialDrop := satAdd32 t.essentialDrop 1 } := by
  rcases offerAnswer_cases i .essential f s with ⟨cls, -⟩ | ⟨cls, -⟩ | ⟨-, h8, -⟩ | ⟨-, -, e⟩
  · cases cls
  · cases cls
  · omega
  · exact e

/-! ### The frame's whole path under an ANSWER rule -/

theorem dispatch_of_answer (ha : (s.rules[i]).action = .answer) (f : Frame) (m : Option (Fin 16)) :
    dispatch i f m s =
      addWeight (s.rules[i]).lane (s.rules[i]).weight (actAnswer i s.rules[i] f m (countMatch i s)) := by
  simp only [dispatch, act, ha]

/-- A matched frame's way through the action: the counts before it, the weight and the queue served after it (R37, R86). -/
theorem exec_receivedFrame_of_answer (h : Arrives s frame f c) (hn : s.net = .attached) (hd : offeredDuty s f = none)
    (hw : walkRules s c f = some (i, m)) (ha : (s.rules[i]).action = .answer) :
    exec (.receivedFrame frame) s = .next (startTransmit (addWeight (s.rules[i]).lane (s.rules[i]).weight
      (actAnswer i s.rules[i] f m (countMatch i (entered c s))))) := by
  have heard : (s.active || s.proxy == .handback) = true := by simp [h.active]
  have hc := (classify_dispatch h hd hn hw).trans (dispatch_of_answer (s := entered c s) ha f m)
  calc exec (.receivedFrame frame) s = .next (receiveFrame frame s) := rfl
    _ = .next (startTransmit (classify frame s)) := by rw [receiveFrame, if_pos heard]
    _ = _ := congrArg (fun t => Host.Outcome.next (startTransmit t)) hc

/-- Settles O41: the branch of the action for each case, met in the state the counts leave, which agrees with the state before
in the entries, the budget, what is spent and the queue. -/
theorem answers_are_withheld_refused_or_admitted : Obligations.Answers_are_withheld_refused_or_admitted := by
  intro s frame f c i m template h hn hd hw _ ha ht may base after entry
  have run : exec (.receivedFrame frame) s = after (actAnswer i s.rules[i] f m (countMatch i (entered c s))) :=
    exec_receivedFrame_of_answer h hn hd hw ha
  have allowed : mayAnswer (countMatch i (entered c s)) m = true ↔ may := mayAnswer_iff s m
  have offered (hm : may) (within : (s.rules[i]).cls = .ordinary → s.spent < s.budget) :
      exec (.receivedFrame frame) s =
        after (offerAnswer i (s.rules[i]).cls (buildAnswer s template (s.rules[i]).patchList f (entryValue s m)) base) :=
    run.trans (congrArg after (actAnswer_of_offered (allowed.2 hm) ht within))
  refine ⟨fun hm => ?withheld, fun hm cls spent => ?overBudget, fun hm cls within h8 h6 => ?admitted,
    fun hm cls within full => ?queueFull, fun hm cls h8 => ?essential, fun hm cls full => ?essentialDrop⟩
  case withheld =>
    exact run.trans (congrArg after (actAnswer_of_withheld (Bool.eq_false_iff.2 (mt allowed.1 hm))))
  case overBudget => exact run.trans (congrArg after (actAnswer_of_overBudget (allowed.2 hm) cls spent))
  case admitted =>
    rw [offered hm fun _ => within, cls]
    exact congrArg after (offerAnswer_ordinary_of_room h8 h6)
  case queueFull =>
    rw [offered hm fun _ => within, cls]
    exact congrArg after (offerAnswer_ordinary_of_full full)
  case essential =>
    rw [offered hm fun o => absurd (cls.symm.trans o) nofun, cls]
    exact congrArg after (offerAnswer_essential_of_room h8)
  case essentialDrop =>
    rw [offered hm fun o => absurd (cls.symm.trans o) nofun, cls]
    exact congrArg after (offerAnswer_essential_of_full full)

end Sys2Proof.Machine
end

section
/-! SUPPORT. The end of a load window (R151, R153, R154, R156): the target between two points of the curve, the storm vote branch
by branch, and the next window's start; then the obligation O58. -/

namespace Sys2Proof.Machine

variable {s : State} {n : Nat}

/-! ### The target -/

/-- The product of R153 lies between 0 and the difference of the points, and a rise is not reached in full. -/
theorem product_div_bounds (d : Int) {r : Nat} (hr : r < 32) :
    min 0 d ≤ d * r / 32 ∧ d * r / 32 ≤ max 0 d ∧ (0 < d → d * r / 32 < d) := by
  have hr0 : (0 : Int) ≤ r := Int.natCast_nonneg r
  have hr31 : (r : Int) ≤ 31 := by omega
  rcases le_total 0 d with hd | hd
  case inl =>
    have lower : 0 ≤ d * r := Int.mul_nonneg hd hr0
    have upper : d * r ≤ d * 31 := Int.mul_le_mul_of_nonneg_left hr31 hd
    omega
  case inr =>
    have lower : d * 31 ≤ d * r := Int.mul_le_mul_of_nonpos_left hd hr31
    have upper : d * r ≤ 0 := Int.mul_nonpos_of_nonpos_of_nonneg hd hr0
    omega

/-- What R153 adds to Pk for a count with r = n mod 32 stays between the two points, below a higher P(k+1). -/
theorem interpolation_bounds {p q t r : Nat} (hr : r < 32) (ht : (t : Int) = p + ((q : Int) - p) * r / 32) :
    min p q ≤ t ∧ t ≤ max p q ∧ (p < q → t < q) := by
  obtain ⟨lower, upper, below⟩ := product_div_bounds ((q : Int) - p) hr
  omega

theorem Curve.point_of_lt (c : Curve) {k : Nat} (h : k < 9) : c.point k = c.points[k] := dif_pos h

theorem Curve.target_of_full (c : Curve) (h : 256 ≤ n) : c.target n = c.points[8] := if_pos h

/-- Below 256 the target is the interpolation of R153, wherever that is a natural number. -/
theorem Curve.target_of_interpolation (c : Curve) {t : Nat} (k : Fin 8) (hk : n / 32 = k.val)
    (ht : (t : Int) = c.points[k.val] + ((c.points[k.val + 1] : Int) - c.points[k.val]) * ((n % 32 : Nat) : Int) / 32) :
    c.target n = t := by
  have below : ¬256 ≤ n := by omega
  simp only [Curve.target, if_neg below, hk]
  rw [c.point_of_lt (by omega : k.val < 9), c.point_of_lt (by omega : k.val + 1 < 9),
    Int.fdiv_eq_ediv_of_nonneg _ (by decide), ← ht, Int.toNat_natCast]

/-! ### The storm vote, branch by branch -/

theorem takeStormVote_of_off (off : s.curve.stormLevel = 0) : takeStormVote n s = s := by
  rcases takeStormVote_cases n s with ⟨-, e⟩ | ⟨on, -⟩ | ⟨on, -⟩ | ⟨on, -⟩
  · exact e
  all_goals exact absurd off on

section Level

variable (on : s.curve.stormLevel ≠ 0)
include on

theorem takeStormVote_of_quiet (quiet : n < s.curve.stormLevel) : takeStormVote n s = { s with stormVote := 0 } := by
  rcases takeStormVote_cases n s with ⟨off, -⟩ | ⟨-, -, e⟩ | ⟨-, storm, -⟩ | ⟨-, storm, -⟩
  · exact absurd off on
  · exact e
  all_goals omega

theorem takeStormVote_of_early (storm : s.curve.stormLevel ≤ n) (vote : s.stormVote < 2) :
    takeStormVote n s =
      { s.count fun t => { t with stormWindows := satAdd32 t.stormWindows 1 } with stormVote := s.stormVote + 1 } := by
  rcases takeStormVote_cases n s with ⟨off, -⟩ | ⟨-, quiet, -⟩ | ⟨-, -, -, e⟩ | ⟨-, -, third, -⟩
  · exact absurd off on
  · omega
  · exact e
  · omega

theorem takeStormVote_of_third (storm : s.curve.stormLevel ≤ n) (vote : 2 ≤ s.stormVote) :
    takeStormVote n s = addWeight s.curve.stormLane s.curve.stormWeight
      { s.count fun t => { t with stormWindows := satAdd32 t.stormWindows 1 } with stormVote := 0 } := by
  rcases takeStormVote_cases n s with ⟨off, -⟩ | ⟨-, quiet, -⟩ | ⟨-, -, early, -⟩ | ⟨-, -, -, e⟩
  · exact absurd off on
  · omega
  · omega
  · exact e

end Level

/-! ### The next window -/

/-- A fresh load window: nothing spent, nothing counted, 100 ms to run (R151). -/
def startWindow (s : State) : State :=
  { s with spent := 0, windowCount := 0, windowTimer := some Config.windowMs }

/-- An addition neither reads nor writes what a fresh window sets, so the two may be done in either order. -/
theorem startWindow_addWeight (j : Fin 8) (w : Nat) (s : State) :
    startWindow (addWeight j w s) = addWeight j w (startWindow s) := by
  have agree : WakeEq s (startWindow s) := by constructor <;> rfl
  rw [addWeight_of_wakeEq j w agree]
  exact congrArg startWindow (addWeight_onlyWake j w s).eq

/-- The event while the window runs: the budget moved, then the vote taken, then the next window started (R151). -/
theorem exec_loadWindowExpiry_of_running (ha : s.active = true) (ht : s.windowTimer.isSome = true) :
    exec .loadWindowExpiry s = .next (startWindow (takeStormVote s.windowCount
      { s with budget := moveBudget s.budget (s.curve.target s.windowCount) s.curve.ramp })) := by
  have running : (s.active && s.windowTimer.isSome) = true := by rw [ha, ht]; rfl
  exact congrArg Host.Outcome.next (if_pos running)

/-- Settles O58: the target the statement describes is the curve's, and each clause is one branch of the vote; at the third storm
window the weight is added after the next window's start instead of before it. -/
theorem load_window_moves_the_budget_and_votes : Obligations.Load_window_moves_the_budget_and_votes := by
  intro s target ha ht full between ended stormy
  have isTarget : s.curve.target s.windowCount = target := by
    by_cases h : 256 ≤ s.windowCount
    · exact (s.curve.target_of_full h).trans (full h).symm
    · have segment : s.windowCount / 32 < 8 := by omega
      exact s.curve.target_of_interpolation ⟨_, segment⟩ rfl (between ⟨_, segment⟩ rfl)
  have voted {t : State}
      (h : takeStormVote s.windowCount { s with budget := moveBudget s.budget target s.curve.ramp } = t) :
      exec .loadWindowExpiry s = .next (startWindow t) := by
    rw [exec_loadWindowExpiry_of_running ha ht, isTarget, h]
  refine ⟨fun k hk => ?bounds, fun off => ?off, fun on quiet => ?quiet, fun on storm vote => ?early,
    fun on storm vote => ?third⟩
  case bounds => exact interpolation_bounds (Nat.mod_lt _ (by decide)) (between k hk)
  case off => exact voted (takeStormVote_of_off off)
  case quiet => exact voted (takeStormVote_of_quiet on quiet)
  case early => exact voted (takeStormVote_of_early on storm vote)
  case third =>
    exact (voted (takeStormVote_of_third on storm vote)).trans
      (congrArg Host.Outcome.next (startWindow_addWeight _ _ _))

end Sys2Proof.Machine
end

section
/-! SUPPORT. An addition evaluated (R165, R170, R171): what the test of a lane and the test of TOTAL do to the reason set and the
first reason, when the wake decision is taken, and the tests and the decision in a row; then the obligation O56. -/

namespace Sys2Proof.Machine

variable {s : State} {reached : Bool} {r : Fin 9} {j : Fin 8} {k w : Nat}

/-! ### A test for joining, of a lane or of TOTAL -/

/-- Member `r` joins the reason set when it is reached: what the test of a lane and the test of TOTAL have in common. -/
def joinIf (reached : Bool) (r : Fin 9) (s : State) : State := if reached then joinReason r s else s

theorem testLane_eq_joinIf (s : State) (j : Fin 8) : testLane s j = joinIf (laneReached s j) ⟨j.val, by omega⟩ s := rfl

theorem testTotal_eq_joinIf (s : State) : testTotal s = joinIf (totalReached s) 8 s := rfl

theorem laneReached_iff :
    laneReached s j = true ↔ (s.laneSettings[j]).threshold ≠ 0 ∧ (s.laneSettings[j]).threshold ≤ s.lanes[j] := by
  simp [laneReached]

theorem totalReached_iff :
    totalReached s = true ↔ s.station.totalThreshold ≠ 0 ∧ s.station.totalThreshold ≤ s.lanes.toList.sum := by
  simp [totalReached, laneTotal]

theorem joinIf_reasons (hk : k < 9) :
    (joinIf reached r s).reasons.getLsbD k = true ↔ s.reasons.getLsbD k = true ∨ (k = r.val ∧ reached = true) := by
  cases reached with
  | false => simp [joinIf]
  | true => simp [joinIf, joinReason_reasons r s k hk]

theorem joinIf_reasons_eq_zero : (joinIf reached r s).reasons = 0 ↔ s.reasons = 0 ∧ reached = false := by
  cases reached with
  | false => simp [joinIf]
  | true => exact iff_of_false (joinReason_ne r s) (by simp)

theorem joinIf_firstReason :
    (joinIf reached r s).firstReason =
      if s.reasons = 0 ∧ reached = true then some { reason := r, time := s.elapsed } else s.firstReason := by
  cases reached with
  | false => simp [joinIf]
  | true => simp [joinIf, joinReason_firstReason]

/-- A test changes the reason set and the first reason, and nothing else. -/
theorem joinIf_frame (reached : Bool) (r : Fin 9) (s : State) :
    joinIf reached r s =
      { s with reasons := (joinIf reached r s).reasons, firstReason := (joinIf reached r s).firstReason } := by
  cases reached with
  | false => rfl
  | true =>
    change joinReason r s = { s with reasons := (joinReason r s).reasons, firstReason := (joinReason r s).firstReason }
    unfold joinReason
    split <;> rfl

@[simp] theorem joinIf_elapsed : (joinIf reached r s).elapsed = s.elapsed :=
  (congrArg State.elapsed (joinIf_frame reached r s) :)

@[simp] theorem joinIf_proxy : (joinIf reached r s).proxy = s.proxy :=
  (congrArg State.proxy (joinIf_frame reached r s) :)

@[simp] theorem joinIf_wake : (joinIf reached r s).wake = s.wake :=
  (congrArg State.wake (joinIf_frame reached r s) :)

@[simp] theorem joinIf_patienceTimer : (joinIf reached r s).patienceTimer = s.patienceTimer :=
  (congrArg State.patienceTimer (joinIf_frame reached r s) :)

@[simp] theorem joinIf_lanes : (joinIf reached r s).lanes = s.lanes :=
  (congrArg State.lanes (joinIf_frame reached r s) :)

@[simp] theorem joinIf_station : (joinIf reached r s).station = s.station :=
  (congrArg State.station (joinIf_frame reached r s) :)

/-- Whether TOTAL is reached does not depend on the test of the lane before it. -/
@[simp] theorem joinIf_totalReached : totalReached (joinIf reached r s) = totalReached s := by
  rw [totalReached, totalReached, laneTotal, laneTotal, joinIf_lanes, joinIf_station]

/-! ### The wake decision -/

/-- The decision reads the reason set and the first reason and leaves them; R171 says when it wakes the part. -/
theorem wakeDecision_fields (b s : State) :
    (wakeDecision b s).lanes = s.lanes ∧ (wakeDecision b s).reasons = s.reasons ∧
      (wakeDecision b s).firstReason = s.firstReason ∧
      ((wakeDecision b s).proxy, (wakeDecision b s).wake, (wakeDecision b s).patienceTimer) =
        if b.reasons = 0 ∧ s.reasons ≠ 0 ∧ s.proxy = .proxy then
          (.waking, true, some (s.station.wakePatience * 1000))
        else (s.proxy, s.wake, s.patienceTimer) := by
  unfold wakeDecision
  split <;> exact ⟨rfl, rfl, rfl, rfl⟩

/-! ### The evaluation after an addition: the lane, then TOTAL, then the decision -/

/-- The state after the two tests of an evaluation, before the wake decision. -/
theorem testTotal_testLane (s : State) (j : Fin 8) :
    testTotal (testLane s j) = joinIf (totalReached s) 8 (joinIf (laneReached s j) ⟨j.val, by omega⟩ s) := by
  rw [testTotal_eq_joinIf, testLane_eq_joinIf, joinIf_totalReached]

theorem evaluateLane_lanes (j : Fin 8) (s : State) : (evaluateLane j s).lanes = s.lanes := by
  obtain ⟨lanes, -⟩ := wakeDecision_fields s (testTotal (testLane s j))
  rw [evaluateLane, lanes, testTotal_testLane, joinIf_lanes, joinIf_lanes]

/-- No member joins but the lane and TOTAL, each when reached (R165). -/
theorem evaluateLane_reasons (hk : k < 9) :
    (evaluateLane j s).reasons.getLsbD k = true ↔
      s.reasons.getLsbD k = true ∨ (k = j.val ∧ laneReached s j = true) ∨ (k = 8 ∧ totalReached s = true) := by
  obtain ⟨-, reasons, -⟩ := wakeDecision_fields s (testTotal (testLane s j))
  rw [evaluateLane, reasons, testTotal_testLane, joinIf_reasons hk, joinIf_reasons hk, or_assoc]
  rfl

/-- The lane is tested before TOTAL, so it is the first reason where both join an empty set (R170). -/
theorem evaluateLane_firstReason (j : Fin 8) (s : State) :
    (evaluateLane j s).firstReason =
      if s.reasons ≠ 0 then s.firstReason
      else if laneReached s j = true then some { reason := ⟨j.val, by omega⟩, time := s.elapsed }
      else if totalReached s = true then some { reason := 8, time := s.elapsed }
      else s.firstReason := by
  obtain ⟨-, -, firstReason, -⟩ := wakeDecision_fields s (testTotal (testLane s j))
  rw [evaluateLane, firstReason, testTotal_testLane, joinIf_firstReason, joinIf_firstReason, joinIf_elapsed]
  simp only [joinIf_reasons_eq_zero]
  by_cases empty : s.reasons = 0
  · cases laneReached s j <;> simp [empty]
  · rw [if_neg fun h => empty h.1.1, if_neg fun h => empty h.1, if_pos empty]

/-- The part wakes when the set was empty, the lane or TOTAL is reached, and the state is PROXY (R171). -/
theorem evaluateLane_signalling (j : Fin 8) (s : State) :
    ((evaluateLane j s).proxy, (evaluateLane j s).wake, (evaluateLane j s).patienceTimer) =
      if s.proxy = .proxy ∧ s.reasons = 0 ∧ (laneReached s j = true ∨ totalReached s = true) then
        (.waking, true, some (1000 * s.station.wakePatience))
      else (s.proxy, s.wake, s.patienceTimer) := by
  obtain ⟨-, -, -, signalling⟩ := wakeDecision_fields s (testTotal (testLane s j))
  have wakes : (s.reasons = 0 ∧ (testTotal (testLane s j)).reasons ≠ 0 ∧ s.proxy = .proxy) ↔
      s.proxy = .proxy ∧ s.reasons = 0 ∧ (laneReached s j = true ∨ totalReached s = true) := by
    rw [testTotal_testLane, ne_eq, joinIf_reasons_eq_zero, joinIf_reasons_eq_zero, ← Bool.not_eq_true, ← Bool.not_eq_true]
    tauto
  rw [evaluateLane, signalling, ← if_congr wakes rfl rfl, Nat.mul_comm 1000]
  simp [testTotal_testLane]

/-! ### An addition -/

/-- Lane `j` raised by `w`, stopping at 65,535 (R164). -/
def raiseLane (j : Fin 8) (w : Nat) (s : State) : State :=
  { s with lanes := s.lanes.set j (satAdd16 s.lanes[j] w) }

theorem addWeight_of_discarded (h : w = 0 ∨ s.active = false) : addWeight j w s = s := by
  rcases addWeight_cases j w s with ⟨-, e⟩ | ⟨on, ha, -⟩ | ⟨on, ha, -⟩
  · exact e
  all_goals simp [on, ha] at h

section Applied

variable (on : w ≠ 0) (ha : s.active = true)
include on ha

theorem addWeight_of_settling (hold : s.settleTimer.isSome = true) : addWeight j w s = raiseLane j w s := by
  rcases addWeight_cases j w s with ⟨off, -⟩ | ⟨-, -, -, e⟩ | ⟨-, -, settled, -⟩
  · simp [on, ha] at off
  · exact e
  · simp [settled] at hold

theorem addWeight_of_settled (settled : s.settleTimer = none) :
    addWeight j w s = evaluateLane j (raiseLane j w s) := by
  rcases addWeight_cases j w s with ⟨off, -⟩ | ⟨-, -, hold, -⟩ | ⟨-, -, -, e⟩
  · simp [on, ha] at off
  · simp [settled] at hold
  · exact e

end Applied

/-- Settles O56: the three cases of an addition; in the last, the evaluation of the state with the lane raised. -/
theorem additions_raise_lanes_and_may_wake : Obligations.Additions_raise_lanes_and_may_wake := by
  intro s j w
  refine ⟨addWeight_of_discarded, fun on ha => ⟨addWeight_of_settling on ha, fun settled => ?evaluated⟩⟩
  have laneJoins := laneReached_iff (s := raiseLane j w s) (j := j)
  have totalJoins := totalReached_iff (s := raiseLane j w s)
  refine ⟨evaluateLane j (raiseLane j w s), ?frame, fun k => ?reasons, ?first, ?signalling⟩
  case frame =>
    have frame := (evaluateLane_onlyWake j (raiseLane j w s)).eq
    rw [evaluateLane_lanes] at frame
    exact (addWeight_of_settled on ha settled).trans frame
  case reasons =>
    have reasons := evaluateLane_reasons (j := j) (s := raiseLane j w s) k.isLt
    rwa [laneJoins, totalJoins] at reasons
  case first =>
    have first := evaluateLane_firstReason j (raiseLane j w s)
    simp only [laneJoins, totalJoins] at first
    exact first
  case signalling =>
    have signalling := evaluateLane_signalling j (raiseLane j w s)
    simp only [laneJoins, totalJoins] at signalling
    exact signalling

end Sys2Proof.Machine
end

section
/-! SUPPORT. Fetch Held (R181): what the request comes to in REPORT, in another state and over an unread reply; then the
obligation O23. -/

namespace Sys2Proof.Machine

variable {k : RequestKind} {s : State} {tag : Byte} {body : List Byte} {r : Reply} {h : HeldFrame} {rest : List HeldFrame}

/-- Over an unread reply a request only marks that reply (R191). -/
theorem takeRequest_requestOf_of_unread (hr : s.reply = some r) (hb : body.length ≤ 1600) :
    takeRequest k (requestOf tag body) s = { s with reply := some { r with dropped := true } } := by
  rw [takeRequest, requestOf_complete tag hb, hr]
  rfl

/-- What a Fetch Held accepted in REPORT comes to (R181). -/
def judgeHeld (s : State) : Verdict :=
  match s.held with
  | [] => .refused .empty []
  | h :: rest => .performed { s with held := rest } false (h.encode rest.length)

theorem judgeHeld_of_nil (hq : s.held = []) : judgeHeld s = .refused .empty [] := by
  rw [judgeHeld, hq]

theorem judgeHeld_of_cons (hq : s.held = h :: rest) :
    judgeHeld s = .performed { s with held := rest } false (h.encode rest.length) := by
  rw [judgeHeld, hq]

theorem exec_fetchHeld_of_report (hp : s.proxy = .report) (hr : s.reply = none) :
    exec (.fetchHeld (requestOf tag [])) s = .next (settle 0x0F tag (judgeHeld s) s) := by
  change execFetchHeld _ s = _
  rw [execFetchHeld, takeRequest_requestOf hr (Nat.zero_le _),
    examine_requestOf_of_accepts (Nat.zero_le _) (by simp [inReport, hp]) (by simp)]
  rfl

theorem exec_fetchHeld_of_not_report (hp : s.proxy ≠ .report) (hr : s.reply = none) :
    exec (.fetchHeld (requestOf tag [])) s = .next { s with reply := some (refusal 0x0F tag .wrongState []) } := by
  change execFetchHeld _ s = _
  rw [execFetchHeld, takeRequest_requestOf hr (Nat.zero_le _),
    examine_requestOf_of_not_accepts (Nat.zero_le _) (by simp [inReport, hp])]
  rfl

theorem exec_fetchHeld_of_unread (hr : s.reply = some r) :
    exec (.fetchHeld (requestOf tag [])) s = .next { s with reply := some { r with dropped := true } } :=
  congrArg Host.Outcome.next (takeRequest_requestOf_of_unread hr (Nat.zero_le _))

/-- Settles O23: in REPORT the judgement of the queue, settled into the slot; elsewhere the state check, and over an unread reply
the mark alone. -/
theorem fetch_Held_takes_the_oldest_record : Obligations.Fetch_Held_takes_the_oldest_record := by
  intro s tag
  refine ⟨fun h rest hp hr hq => ?taken, fun hp hr hq => ?empty, fun hp hr => exec_fetchHeld_of_not_report hp hr,
    fun r hr => exec_fetchHeld_of_unread hr⟩
  case taken =>
    rw [exec_fetchHeld_of_report hp hr, judgeHeld_of_cons hq]
    rfl
  case empty =>
    rw [exec_fetchHeld_of_report hp hr, judgeHeld_of_nil hq]
    rfl

end Sys2Proof.Machine
end

section
/-! SUPPORT. Reset Part (R199): what the request comes to into an empty reply slot, over an unread reply and cut short; then the
obligation O17. -/

namespace Sys2Proof.Machine

variable {k : RequestKind} {m : Request} {s : State} {tag : Byte} {r : Reply}

/-- A message cut short is discarded, whatever the reply slot holds (R189). -/
theorem takeRequest_of_cut_short (hc : m.complete = false) : takeRequest k m s = s := by
  rw [takeRequest, hc]
  rfl

theorem exec_resetPin : exec .resetPin s = .next (resetPart s) := rfl

/-- Every proxy state accepts Reset Part, and its verdict is silent: the slot stays as the reset leaves it (R199). -/
theorem exec_resetPart_of_empty_slot (hr : s.reply = none) :
    exec (.resetPart (requestOf tag [])) s = .next (resetPart s) := by
  change execResetPart _ s = _
  rw [execResetPart, takeRequest_requestOf hr (Nat.zero_le _),
    examine_requestOf_of_accepts (Nat.zero_le _) rfl (by simp)]
  rfl

theorem exec_resetPart_of_unread (hr : s.reply = some r) :
    exec (.resetPart (requestOf tag [])) s = .next { s with reply := some { r with dropped := true } } :=
  congrArg Host.Outcome.next (takeRequest_requestOf_of_unread hr (Nat.zero_le _))

theorem exec_resetPart_of_cut_short (hc : m.complete = false) : exec (.resetPart m) s = .next s :=
  congrArg Host.Outcome.next (takeRequest_of_cut_short hc)

/-- Settles O17: a silent reset into an empty slot, the mark over an unread reply, nothing when cut short; what the RESET pin
leaves is read off the reset state. -/
theorem reset_Part_is_the_reset_by_request : Obligations.Reset_Part_is_the_reset_by_request := by
  intro s tag
  refine ⟨fun hr => ?empty, fun r hr => exec_resetPart_of_unread hr, fun m hc => exec_resetPart_of_cut_short hc,
    resetPart s, exec_resetPin, ?pin⟩
  case empty => rw [exec_resetPart_of_empty_slot hr, exec_resetPin]
  case pin => exact ⟨rfl, rfl, rfl, rfl, rfl, rfl, rfl, rfl, rfl, rfl, rfl, rfl, rfl, rfl⟩

end Sys2Proof.Machine
end

section
/-! SUPPORT. READ (R193): the message each state has waiting, what is shifted out, and what a whole delivery removes; then the
obligation O18. -/

namespace Sys2Proof.Machine

variable {n : Nat} {s : State} {r : Reply} {msg : List Byte}

theorem exec_read : exec (.read n) s = .next (readMessage n s) := rfl

/-! ### The message chosen -/

theorem waitingMessage_of_reply (hr : s.reply = some r) : waitingMessage s = r.encode := by
  rw [waitingMessage, hr]

theorem waitingMessage_of_no_reply (hr : s.reply = none) :
    waitingMessage s =
      bareMessage (if s.readyPending then 0x81 else if s.handbackDonePending then 0x82 else 0) := by
  rw [waitingMessage, hr]
  cases s.readyPending <;> cases s.handbackDonePending <;> rfl

theorem length_encode_reply (r : Reply) : r.encode.length = 7 + r.body.length := by
  simp only [Reply.encode, List.length_append, List.length_cons, List.length_nil, bytesOfNat_length]

theorem length_bareMessage (kind : Byte) : (bareMessage kind).length = 7 := rfl

/-! ### The bytes shifted out -/

/-- The state once a READ of `n` bytes has shifted out `msg` and the zero bytes after it. -/
def shiftOut (n : Nat) (msg : List Byte) (s : State) : State :=
  { s with linkOut := s.linkOut ++ [(msg ++ List.replicate (n - msg.length) 0).take n] }

theorem readMessage_of_waiting (hw : waitingMessage s = msg) :
    readMessage n s = if msg.length ≤ n then removeDelivered (shiftOut n msg s) else shiftOut n msg s := by
  rw [← hw]
  rfl

/-- NONE and the zero bytes after it are zero bytes alone. -/
theorem shiftOut_bareMessage_zero :
    shiftOut n (bareMessage 0) s = { s with linkOut := s.linkOut ++ [List.replicate n 0] } := by
  have zeros : bareMessage 0 = List.replicate 7 0 := rfl
  have covers : min n (7 + (n - 7)) = n := by omega
  rw [shiftOut, zeros, List.length_replicate, List.replicate_append_replicate, List.take_replicate, covers]

/-! ### The message removed

A removal that depends on `p`, the delivery of the whole message, changes the one field of that message. -/

section Removal

variable {p : Prop} [Decidable p]

theorem removeDelivered_if_of_reply (hr : s.reply = some r) :
    (if p then removeDelivered s else s) = { s with reply := if p then none else some r } := by
  split
  · rw [removeDelivered, hr]
  · rw [← hr]

theorem removeDelivered_if_of_ready (hr : s.reply = none) (hq : s.readyPending = true) :
    (if p then removeDelivered s else s) = { s with readyPending := decide ¬p } := by
  by_cases hp : p
  · simp [removeDelivered, hr, hq, hp]
  · simp [hp, ← hq]

theorem removeDelivered_of_not_ready (hr : s.reply = none) (hq : s.readyPending = false) :
    removeDelivered s = { s with handbackDonePending := false } := by
  simp [removeDelivered, hr, hq]

theorem removeDelivered_if_of_handbackDone (hr : s.reply = none) (hq : s.readyPending = false)
    (hd : s.handbackDonePending = true) :
    (if p then removeDelivered s else s) = { s with handbackDonePending := decide ¬p } := by
  by_cases hp : p
  · simp [removeDelivered_of_not_ready hr hq, hp]
  · simp [hp, ← hd]

/-- The delivery of NONE removes nothing. -/
theorem removeDelivered_of_none (hr : s.reply = none) (hq : s.readyPending = false)
    (hd : s.handbackDonePending = false) : removeDelivered s = s := by
  rw [removeDelivered_of_not_ready hr hq, ← hd]

end Removal

/-! ### A READ by the message it chooses -/

theorem readMessage_of_reply (hr : s.reply = some r) :
    readMessage n s = { shiftOut n r.encode s with reply := if 7 + r.body.length ≤ n then none else some r } := by
  rw [readMessage_of_waiting (waitingMessage_of_reply hr), length_encode_reply]
  exact removeDelivered_if_of_reply hr

theorem readMessage_of_ready (hr : s.reply = none) (hq : s.readyPending = true) :
    readMessage n s = { shiftOut n (bareMessage 0x81) s with readyPending := decide (n < 7) } := by
  have hw : waitingMessage s = bareMessage 0x81 := by simp [waitingMessage_of_no_reply hr, hq]
  rw [readMessage_of_waiting hw, length_bareMessage, removeDelivered_if_of_ready (s := shiftOut n (bareMessage 0x81) s) hr hq]
  simp only [Nat.not_le]

theorem readMessage_of_handbackDone (hr : s.reply = none) (hq : s.readyPending = false)
    (hd : s.handbackDonePending = true) :
    readMessage n s = { shiftOut n (bareMessage 0x82) s with handbackDonePending := decide (n < 7) } := by
  have hw : waitingMessage s = bareMessage 0x82 := by simp [waitingMessage_of_no_reply hr, hq, hd]
  rw [readMessage_of_waiting hw, length_bareMessage, removeDelivered_if_of_handbackDone (s := shiftOut n (bareMessage 0x82) s) hr hq hd]
  simp only [Nat.not_le]

theorem readMessage_of_none (hr : s.reply = none) (hq : s.readyPending = false)
    (hd : s.handbackDonePending = false) : readMessage n s = shiftOut n (bareMessage 0) s := by
  have hw : waitingMessage s = bareMessage 0 := by simp [waitingMessage_of_no_reply hr, hq, hd]
  have kept : removeDelivered (shiftOut n (bareMessage 0) s) = shiftOut n (bareMessage 0) s :=
    removeDelivered_of_none hr hq hd
  rw [readMessage_of_waiting hw, kept, ite_self]

/-- Settles O18: one case for each message a READ can choose, the bytes shifted out and the one field its delivery changes. -/
theorem read_delivers_the_preferred_message : Obligations.Read_delivers_the_preferred_message := by
  intro n s
  refine ⟨fun r hr => ?reply, fun hr hq => ?ready, fun hr hq hd => ?handbackDone, fun hr hq hd => ?none⟩
  case reply =>
    rw [exec_read, readMessage_of_reply hr]
    rfl
  case ready =>
    rw [exec_read, readMessage_of_ready hr hq]
    rfl
  case handbackDone =>
    rw [exec_read, readMessage_of_handbackDone hr hq hd]
    rfl
  case none => rw [exec_read, readMessage_of_none hr hq hd, shiftOut_bareMessage_zero]

end Sys2Proof.Machine
end

section
/-! SUPPORT. The step, the reset and the examination of requests: what the state after a reset satisfies, and the one
request kind each kind byte is judged by; then the obligations O1, O5, O16, O19 and O20. -/

namespace Sys2Proof.Machine

variable {s : State} {m : Request} {kind : Byte} {k : RequestKind}

/-! ### The step -/

/-- Settles O1: the step's two branches. -/
theorem step_runs_the_front_command : Obligations.Step_runs_the_front_command := by
  refine ⟨fun c rest s => rfl, fun s empty => ?_⟩
  rw [step, empty]

/-! ### The state after a reset -/

/-- The state after reset with the model's own logs and counts replaced: what `State.reset` and a reset of the part share. -/
def resetWith (portOut : List PortRecord) (linkOut : List (List Byte)) (freeCount : Nat) (pending : List Instr) : State :=
  { State.reset with portOut := portOut, linkOut := linkOut, freeCount := freeCount, pending := pending }

theorem resetPart_eq_resetWith (s : State) :
    resetPart s = resetWith (s.portOut ++ [.owner .host]) s.linkOut s.freeCount s.pending := rfl

/-! ### The defaults are in range -/

theorem Station.default_inRange : Station.default.InRange := by constructor <;> decide

theorem Rule.free_inRange : Rule.free.InRange := by constructor <;> simp [Rule.free]

theorem LaneSetting.default_inRange : LaneSetting.default.InRange := by constructor <;> decide

theorem Curve.default_points (k : Fin 9) : Curve.default.points[k] = 32 := by simp [Curve.default]

theorem Curve.default_inRange : Curve.default.InRange :=
  ⟨fun k => by rw [Curve.default_points]; decide, by decide, by decide, by decide⟩

theorem Stats.zero_inRange : Stats.zero.InRange := by constructor <;> decide

section ResetWith

variable (portOut : List PortRecord) (linkOut : List (List Byte)) (freeCount : Nat) (pending : List Instr)

@[simp] theorem resetWith_entries :
    (resetWith portOut linkOut freeCount pending).entries = Vector.replicate 16 none := rfl

@[simp] theorem resetWith_groups :
    (resetWith portOut linkOut freeCount pending).groups = Vector.replicate 8 GroupEntry.free := rfl

@[simp] theorem resetWith_rules :
    (resetWith portOut linkOut freeCount pending).rules = Vector.replicate 32 Rule.free := rfl

@[simp] theorem resetWith_patchLists :
    (resetWith portOut linkOut freeCount pending).patchLists = Vector.replicate 32 none := rfl

@[simp] theorem resetWith_duties :
    (resetWith portOut linkOut freeCount pending).duties = Vector.replicate 12 { probe := false, duty := none } := rfl

@[simp] theorem resetWith_laneSettings :
    (resetWith portOut linkOut freeCount pending).laneSettings = Vector.replicate 8 LaneSetting.default := rfl

@[simp] theorem resetWith_lanes : (resetWith portOut linkOut freeCount pending).lanes = Vector.replicate 8 0 := rfl

@[simp] theorem resetWith_matchCounts :
    (resetWith portOut linkOut freeCount pending).matchCounts = Vector.replicate 32 0 := rfl

@[simp] theorem resetWith_curve : (resetWith portOut linkOut freeCount pending).curve = Curve.default := rfl

theorem resetWith_ranges : RangesInv (resetWith portOut linkOut freeCount pending) where
  station := Station.default_inRange
  entries := by simp
  groups := by simp [GroupEntry.free]
  rules := by simpa using Rule.free_inRange
  lists := by simp
  duties := by simp
  lanes := by simpa using LaneSetting.default_inRange
  curve := Curve.default_inRange
  signature := nofun

/-- What a reset leaves, the model's own logs apart, satisfies every invariant. -/
theorem resetWith_inv : Inv (resetWith portOut linkOut freeCount pending) where
  ranges := resetWith_ranges _ _ _ _
  pool := ⟨List.nodup_nil, nofun, Nat.zero_le _⟩
  queue := ⟨Nat.zero_le _, Nat.zero_le _, Nat.zero_le _, nofun, fun _ => rfl⟩
  dutyQueue := ⟨fun _ => Nat.zero_le _, nofun, nofun, nofun⟩
  blocked := nofun
  duty := by constructor <;> simp
  entry := by constructor <;> simp
  timers := ⟨nofun, fun _ => ⟨rfl, rfl, rfl, rfl, rfl⟩, by simp, by simp⟩
  wake :=
    { lanes := by simp
      line := nofun
      gap := nofun
      proxy := nofun
      waking := nofun
      first := ⟨nofun, fun h => absurd rfl h⟩
      member := nofun
      resignals := Nat.zero_le _
      patience := nofun
      gap_count := nofun }
  governor :=
    { low := ⟨0, Nat.le_refl 32⟩
      high := ⟨0, Nat.le_refl 32⟩
      spent := Nat.zero_le _
      vote := Nat.zero_le _
      vote_off := fun _ => rfl
      count := Nat.zero_le _
      at_rest := fun _ => ⟨rfl, rfl, rfl, rfl⟩ }
  held := ⟨Nat.zero_le _, Nat.zero_le _, nofun, List.Pairwise.nil, nofun, fun _ => rfl⟩
  lifecycle := ⟨⟨nofun, nofun⟩, ⟨nofun, nofun⟩, fun _ => rfl, nofun, nofun, nofun⟩
  net := ⟨fun d => ⟨by simp, nofun⟩, nofun, fun _ _ => .inr rfl, nofun⟩
  stats := ⟨by simp, Stats.zero_inRange, fun _ => Nat.le_refl _, Nat.zero_le _⟩
  reply := nofun

end ResetWith

theorem resetPart_inv (s : State) : Inv (resetPart s) := resetWith_inv _ _ _ _

/-- Settles O5: the state after reset is one that a reset leaves. -/
theorem reset_satisfies_the_invariants : Obligations.Reset_satisfies_the_invariants :=
  resetWith_inv [.owner .host] [] 0 []

/-- Settles O16: both commands are the same reset, whose tables are read off place by place. -/
theorem reset_pin_and_power_on_reset_the_part : Obligations.Reset_pin_and_power_on_reset_the_part := by
  intro s
  have tables := resetPart_eq_resetWith s
  refine ⟨resetPart s, rfl, rfl, rfl, rfl, rfl, rfl, rfl, rfl, rfl, rfl, rfl, rfl, rfl, rfl, ?entries, ?groups, ?rules, rfl,
    ?patchLists, ?duties, rfl, ?points, rfl, rfl, rfl, rfl, ?laneSettings, rfl, ?matchCounts, rfl, rfl, rfl, rfl, rfl, rfl,
    rfl, ?lanes, rfl, rfl, rfl, rfl, rfl, rfl, rfl, rfl, rfl, rfl, rfl, rfl⟩
  case points => exact Curve.default_points
  all_goals intro i; rw [tables]; simp [GroupEntry.free, Rule.free, LaneSetting.default]

/-! ### The kind of request each kind byte is judged by -/

/-- A request kind examines as R190 has the kind byte examined: a byte of the catalogue by the proxy states that accept it
and its one body size, any other byte refused BAD_KIND. -/
structure Judges (k : RequestKind) (kind : Byte) : Prop where
  echoed : k.kind = kind
  refused : ∀ s, k.refusalBody s = Machine.refusalBody s kind
  accepts : inCatalogue kind = true → ∀ p, (k.accepts p = true ↔ kind.toNat ∈ acceptedKinds p)
  size : inCatalogue kind = true → k.size = bodySize kind.toNat
  unknown : inCatalogue kind = false →
    (∀ p, k.accepts p = true) ∧ k.size = none ∧ ∀ b s, k.perform b s = .refused .badKind []

/-- Every kind byte's command is a request, taken by a kind that examines as the catalogue has it (R190, 11.4). -/
theorem exec_requestOfKind (kind : Byte) (m : Request) :
    ∃ k, Judges k kind ∧ ∀ s, exec (requestOfKind kind m) s = .next (takeRequest k m s) := by
  unfold requestOfKind
  split
  case h_20 h1 h2 h3 h4 h5 h6 h7 h8 h9 h10 h11 h12 h13 h14 h15 h16 h17 h18 h19 =>
    have outside : inCatalogue kind = false := by
      refine Bool.eq_false_iff.2 fun h => ?_
      simp only [inCatalogue, Bool.and_eq_true, decide_eq_true_eq] at h
      simp only [imp_false] at *
      omega
    have notTemplate : kind ≠ 0x05 := fun e => h5 (by rw [e]; rfl)
    refine ⟨_, ⟨rfl, fun s => ?_, fun h => ?_, fun h => ?_, fun _ => ⟨fun _ => rfl, rfl, fun _ _ => rfl⟩⟩, fun s => rfl⟩
    · exact (if_neg notTemplate).symm
    · simp [outside] at h
    · simp [outside] at h
  all_goals
    next code =>
    have byte : kind = BitVec.ofNat 8 kind.toNat := by simp
    rw [code] at byte
    subst byte
    refine ⟨_, ⟨rfl, fun s => rfl, fun _ p => ?_, fun _ => rfl, nofun⟩, fun s => rfl⟩
    cases p <;> decide

theorem takeRequest_of_unread {r : Reply} (hc : m.complete = true) (hr : s.reply = some r) :
    takeRequest k m s = { s with reply := some { r with dropped := true } } := by
  rw [takeRequest, hc, hr]
  rfl

/-- A complete message into an empty slot is examined and answered (R190). -/
theorem takeRequest_of_empty_slot (hc : m.complete = true) (hr : s.reply = none) :
    takeRequest k m s = settle k.kind m.tag (examine k m s) s := by
  rw [takeRequest, hc, hr]
  rfl

/-- Settles O19: whatever kind takes the request, an unread reply is marked and a message cut short is discarded. -/
theorem dropped_discarded_and_ignored_events : Obligations.Dropped_discarded_and_ignored_events := by
  refine ⟨fun kind m s r hc hr => ?dropped, fun kind m s hc => ?discarded, fun s bytes => ⟨rfl, rfl, rfl⟩⟩
  case dropped =>
    obtain ⟨k, -, run⟩ := exec_requestOfKind kind m
    rw [run, takeRequest_of_unread hc hr]
  case discarded =>
    obtain ⟨k, -, run⟩ := exec_requestOfKind kind m
    rw [run, takeRequest_of_cut_short hc]

/-! ### The examination in order -/

theorem examine_of_bad_length (h : 1600 < m.stated.toNat ∨ m.stated.toNat ≠ m.body.length) :
    examine k m s = .refused .badLength (k.refusalBody s) := if_pos h

section Sized

variable (hle : m.stated.toNat ≤ 1600) (heq : m.stated.toNat = m.body.length)
include hle heq

/-- A message of its stated length is examined for the proxy state, then its size, then by its own rule (R190). -/
theorem examine_of_sized :
    examine k m s =
      if !k.accepts s.proxy then .refused .wrongState (k.refusalBody s)
      else if k.size.any (fun n => decide (n ≠ m.body.length)) then .refused .badLength (k.refusalBody s)
      else k.perform m.body s :=
  if_neg (not_or.2 ⟨Nat.not_lt.2 hle, not_not.2 heq⟩)

theorem examine_of_not_accepts (ha : k.accepts s.proxy = false) :
    examine k m s = .refused .wrongState (k.refusalBody s) := by
  rw [examine_of_sized hle heq, ha]
  rfl

theorem examine_of_bad_size {size : Nat} (ha : k.accepts s.proxy = true) (hs : k.size = some size)
    (hne : m.body.length ≠ size) : examine k m s = .refused .badLength (k.refusalBody s) := by
  have differs : k.size.any (fun n => decide (n ≠ m.body.length)) = true := by simpa [hs] using hne.symm
  rw [examine_of_sized hle heq, ha, differs]
  rfl

theorem examine_of_accepts (ha : k.accepts s.proxy = true) (hs : ∀ n ∈ k.size, n = m.body.length) :
    examine k m s = k.perform m.body s := by
  have size : ¬k.size.any (fun n => decide (n ≠ m.body.length)) = true := by simpa [Option.any_eq_true] using hs
  rw [examine_of_sized hle heq, ha]
  exact if_neg size

end Sized

/-- Only kinds without a size of their own carry a body in their refusals (R196). -/
theorem refusalBody_of_sized {size : Nat} (h : bodySize kind.toNat = some size) (s : State) : refusalBody s kind = [] := by
  refine if_neg ?_
  rintro rfl
  exact absurd h nofun

/-- Settles O20: the tests of the examination in turn, for the kind that judges the byte. -/
theorem requests_are_examined_in_order : Obligations.Requests_are_examined_in_order := by
  intro kind m s hc hr
  obtain ⟨k, judges, run⟩ := exec_requestOfKind kind m
  have settled : exec (requestOfKind kind m) s = .next (settle kind m.tag (examine k m s) s) := by
    rw [run, takeRequest_of_empty_slot hc hr, judges.echoed]
  rw [settled]
  refine ⟨fun h => ?badLength, fun hle heq => ⟨fun outside => ?badKind, fun inside ha => ?wrongState,
    fun inside ha size hs hne => ?badSize⟩⟩
  case badLength =>
    rw [examine_of_bad_length (h.imp_right Nat.ne_of_lt), judges.refused]
    rfl
  case badKind =>
    obtain ⟨accepts, size, perform⟩ := judges.unknown outside
    rw [examine_of_accepts hle heq (accepts _) (by simp [size]), perform]
    rfl
  case wrongState =>
    have refuses : k.accepts s.proxy = false := Bool.eq_false_iff.2 (mt (judges.accepts inside _).1 ha)
    rw [examine_of_not_accepts hle heq refuses, judges.refused]
    rfl
  case badSize =>
    have one : bodySize kind.toNat = some size := hs
    have sized : k.size = some size := (judges.size inside).trans one
    rw [examine_of_bad_size hle heq ((judges.accepts inside _).2 ha) sized hne, judges.refused, refusalBody_of_sized one]
    rfl

end Sys2Proof.Machine
end

section
/-! SUPPORT. The layouts the part replies with (R200), read piece by piece: the status record and the wake report; then the
obligations O21 and O22. -/

namespace Sys2Proof.Machine

variable {s : State} {k : RequestKind} {tag : Byte} {body : List Byte}

/-! ### Pieces of a byte list -/

theorem slice_append_of_length {pre mid post : List Byte} {off n : Nat} (hoff : pre.length = off) (hn : mid.length = n) :
    slice (pre ++ (mid ++ post)) off n = mid := by
  rw [slice_append_right _ _ _ _ hoff.le, hoff, Nat.sub_self, slice_zero_append _ _ _ hn]

/-- A piece within a piece. -/
theorem slice_slice (b : List Byte) (off : Nat) {w i n : Nat} (h : i + n ≤ w) :
    slice b (off + i) n = slice (slice b off w) i n := by
  simp only [slice, List.drop_take, List.drop_drop, List.take_take]
  congr 1
  omega

/-- A byte list made of pieces has each piece at the place where those before it end. -/
theorem slice_flatten (pieces : List (List Byte)) {i off n : Nat} (hi : i < pieces.length)
    (hoff : ((pieces.map List.length).take i).sum = off) (hn : (pieces[i]).length = n) :
    slice pieces.flatten off n = pieces[i] := by
  have split : pieces.flatten = (pieces.take i).flatten ++ (pieces[i] ++ (pieces.drop (i + 1)).flatten) := by
    rw [← List.flatten_cons, ← List.drop_eq_getElem_cons hi, ← List.flatten_append, List.take_append_drop]
  rw [split]
  refine slice_append_of_length ?_ hn
  rw [← hoff, List.length_flatten, List.map_take]

/-- The same with the pieces' lengths known. -/
theorem slice_pieces (pieces : List (List Byte)) {lengths : List Nat} (h : pieces.map List.length = lengths) {i : Nat}
    (hi : i < pieces.length) (hi' : i < lengths.length) :
    slice pieces.flatten ((lengths.take i).sum) lengths[i] = pieces[i] := by
  subst h
  exact slice_flatten pieces hi rfl (by simp)

/-- A run of records of one length has record `i` at `i` times the length. -/
theorem slice_flatMap {α : Type} {f : α → List Byte} {w : Nat} (hw : ∀ a, (f a).length = w) (l : List α) {i : Nat}
    (hi : i < l.length) : slice (l.flatMap f) (w * i) w = f l[i] := by
  have lengths : (l.map f).map List.length = List.replicate l.length w := by
    rw [List.map_map, List.eq_replicate_iff]
    simp [hw]
  have := slice_flatten (l.map f) (i := i) (off := w * i) (n := w) (by simpa using hi)
    (by rw [lengths]; simp [Nat.min_eq_left hi.le, Nat.mul_comm]) (by simp [hw])
  simpa [List.flatMap] using this

theorem length_flatMap_of_records {α : Type} {f : α → List Byte} {w : Nat} (hw : ∀ a, (f a).length = w) (l : List α) :
    (l.flatMap f).length = w * l.length := by
  induction l with
  | nil => rfl
  | cons a l ih => rw [List.flatMap_cons, List.length_append, hw, ih, List.length_cons, Nat.mul_succ, Nat.add_comm]

/-- The record of place `i` of a table written record after record. -/
theorem slice_table {α : Type} {f : α → List Byte} {n : Nat} (v : Vector α n) {b : List Byte} (off w len : Nat)
    (hw : ∀ a, (f a).length = w) (hlen : w * n = len) (h : slice b off len = v.toList.flatMap f) (i : Fin n) :
    slice b (off + w * i.val) w = f v[i] := by
  have inside : w * i.val + w ≤ len := by
    rw [← hlen, ← Nat.mul_succ]
    exact Nat.mul_le_mul_left w i.isLt
  rw [slice_slice b off inside, h, slice_flatMap hw v.toList (by simp)]
  simp

/-! ### A request that is performed -/

/-- A complete request in a state that accepts it, of the right size, comes to what its own rule says (R190). -/
theorem takeRequest_of_accepts (hr : s.reply = none) (hb : body.length ≤ 1600) (ha : k.accepts s.proxy = true)
    (hs : ∀ n ∈ k.size, n = body.length) :
    takeRequest k (requestOf tag body) s = settle k.kind tag (k.perform body s) s := by
  rw [takeRequest_requestOf hr hb, examine_requestOf_of_accepts hb ha hs]

/-! ### The status record (R198) -/

/-- The items of the status record in their order. -/
def statusPieces (s : State) : List (List Byte) :=
  [[s.proxy.code, s.net.code, s.linkState.code], bytesOfNat 4 s.elapsed, s.lanes.toList.flatMap (bytesOfNat 2),
    [oneByte s.budget, oneByte s.spent, oneByte s.queue.length, oneByte s.held.length], bytesOfNat 2 (heldBytes s)]

theorem encodeStatus_eq (s : State) : encodeStatus s = (statusPieces s).flatten := by
  simp [encodeStatus, statusPieces, oneByte]

theorem statusPieces_lengths (s : State) : (statusPieces s).map List.length = [3, 4, 16, 4, 2] := by
  simp [statusPieces, length_flatMap_of_records (bytesOfNat_length 2)]

theorem slice_status (s : State) {i : Nat} (hi : i < 5) :
    slice (encodeStatus s) (([3, 4, 16, 4, 2].take i).sum) (([3, 4, 16, 4, 2] : List Nat)[i]) =
      (statusPieces s)[i]'hi := by
  rw [encodeStatus_eq]
  exact slice_pieces _ (statusPieces_lengths s) hi hi

/-- Settles O21: the reply carries the record, whose items are its pieces. -/
theorem query_Status_reports_the_part_as_it_stands : Obligations.Query_Status_reports_the_part_as_it_stands := by
  intro s tag hr
  refine ⟨encodeStatus s, ?exec, ?length, (slice_status s (i := 0) (by decide) :), (slice_status s (i := 1) (by decide) :),
    ?lanes, (slice_status s (i := 3) (by decide) :), (slice_status s (i := 4) (by decide) :)⟩
  case exec => exact congrArg Host.Outcome.next (takeRequest_of_accepts hr (Nat.zero_le _) rfl (by simp))
  case length => rw [encodeStatus_eq, List.length_flatten, statusPieces_lengths]; rfl
  case lanes =>
    exact slice_table s.lanes 7 2 16 (bytesOfNat_length 2) rfl (slice_status s (i := 2) (by decide))

/-! ### The wake report (R183 to R186) -/

theorem EntryReport.encode_length (e : Option EntryReport) : (EntryReport.encode e).length = 10 := by
  cases e <;> simp [EntryReport.encode]

/-- The presence bits of a duty's record, written as a sum. -/
theorem presenceBits_eq_sum (a b : Option Nat) :
    flagByte a.isSome ||| (flagByte b.isSome <<< 1) = (if a = none then 0 else 1) + (if b = none then 0 else 2) := by
  cases a <;> cases b <;> simp [flagByte]

theorem DutyReport.encode_length (u : Option DutyReport) : (DutyReport.encode u).length = 22 := by
  cases u <;> simp [DutyReport.encode]

theorem Stats.encode_length (t : Stats) : t.encode.length = 56 := by
  simp [Stats.encode]

/-- The items of the wake report in their order. -/
def reportPieces (r : WakeReport) : List (List Byte) :=
  [[r.proxyAtReclaim.code, flagByte r.hostInitiated], bytesOfNat 4 r.reclaimTime, bytesOfNat 4 r.completionTime,
    bytesOfBits 2 r.reasons, [firstReasonCode r.firstReason], bytesOfNat 4 (r.firstReason.elim 0 FirstReason.time),
    [oneByte r.resignals], r.lanes.toList.flatMap (bytesOfNat 2), [r.net.code],
    r.entries.toList.flatMap EntryReport.encode, r.duties.toList.flatMap DutyReport.encode,
    r.matchCounts.toList.flatMap (bytesOfNat 4), r.stats.encode, oneByte r.heldRecords :: bytesOfNat 2 r.heldBytes]

/-- The lengths of the items of the wake report. -/
def reportLengths : List Nat := [2, 4, 4, 2, 1, 4, 1, 16, 1, 160, 264, 128, 56, 3]

theorem encodeReport_eq (r : WakeReport) : r.encode = (reportPieces r).flatten := by
  simp only [WakeReport.encode, reportPieces, oneByte, List.flatten_cons, List.flatten_nil, List.append_assoc,
    List.append_nil, List.cons_append, List.nil_append]

theorem reportPieces_lengths (r : WakeReport) : (reportPieces r).map List.length = reportLengths := by
  simp [reportPieces, reportLengths, length_flatMap_of_records (bytesOfNat_length 2),
    length_flatMap_of_records (bytesOfNat_length 4), length_flatMap_of_records EntryReport.encode_length,
    length_flatMap_of_records DutyReport.encode_length, Stats.encode_length]

theorem slice_report (r : WakeReport) {i : Nat} (hi : i < 14) :
    slice r.encode ((reportLengths.take i).sum) (reportLengths[i]'hi) = (reportPieces r)[i]'hi := by
  rw [encodeReport_eq]
  exact slice_pieces _ (reportPieces_lengths r) hi hi

section Report

variable (r : WakeReport)

theorem slice_report_entry (i : Fin 16) : slice r.encode (35 + 10 * i.val) 10 = EntryReport.encode r.entries[i] :=
  slice_table r.entries 35 10 160 EntryReport.encode_length rfl (slice_report r (i := 9) (by decide)) i

theorem slice_report_duty (d : Fin 12) : slice r.encode (195 + 22 * d.val) 22 = DutyReport.encode r.duties[d] :=
  slice_table r.duties 195 22 264 DutyReport.encode_length rfl (slice_report r (i := 10) (by decide)) d

/-- The items of an in-use entry's record are its pieces (R185). -/
theorem slice_report_entry_used {i : Fin 16} {e : EntryReport} (h : r.entries[i] = some e) :
    slice r.encode (35 + 10 * i.val) 4 =
      [match e.kind with | .short => 1 | .long => 2, e.state.code, oneByte e.conflicts,
        if e.claimant = none then 0 else 1] ∧
    slice r.encode (39 + 10 * i.val) 6 = bytesOfBits 6 (e.claimant.getD 0) := by
  have record := slice_report_entry r i
  rw [h] at record
  have head := slice_slice r.encode (35 + 10 * i.val) (w := 10) (i := 0) (n := 4) (by decide)
  have tail := slice_slice r.encode (35 + 10 * i.val) (w := 10) (i := 4) (n := 6) (by decide)
  have place : 39 + 10 * i.val = 35 + 10 * i.val + 4 := by omega
  rw [record] at head tail
  rw [place, tail]
  refine ⟨head.trans ?_, ?_⟩
  · obtain ⟨kind, state, conflicts, claimant⟩ := e
    cases kind <;> cases claimant <;> rfl
  · exact List.take_of_length_le (by simp [EntryReport.encode])

/-- The items of an in-use duty's record are its pieces (R185). -/
theorem slice_report_duty_used {d : Fin 12} {u : DutyReport} (h : r.duties[d] = some u) :
    slice r.encode (195 + 22 * d.val) 6 =
      [1, u.state.code, u.outcome.code, oneByte u.failedRounds, oneByte u.triesUsed,
        (if u.lastCapture = none then 0 else 1) + (if u.capturedInterval = none then 0 else 2)] ∧
    slice r.encode (201 + 22 * d.val) 4 = bytesOfNat 4 u.runsCompleted ∧
    slice r.encode (205 + 22 * d.val) 4 = bytesOfBits 4 u.counter ∧
    slice r.encode (209 + 22 * d.val) 4 = bytesOfNat 4 (u.lastCapture.getD 0) ∧
    slice r.encode (213 + 22 * d.val) 4 = bytesOfNat 4 (u.capturedInterval.getD 0) := by
  have record := slice_report_duty r d
  rw [h] at record
  have item (i n : Nat) (hin : i + n ≤ 22) :
      slice r.encode (195 + i + 22 * d.val) n = slice (DutyReport.encode (some u)) i n := by
    have place : 195 + i + 22 * d.val = 195 + 22 * d.val + i := by omega
    rw [place, slice_slice r.encode (195 + 22 * d.val) hin, record]
  refine ⟨(item 0 6 (by decide)).trans ?_, item 6 4 (by decide), item 10 4 (by decide), item 14 4 (by decide),
    item 18 4 (by decide)⟩
  rw [← presenceBits_eq_sum]
  rfl

end Report

/-- Settles O22: the reply carries the report, whose items are its pieces, table by table. -/
theorem read_Report_returns_the_whole_report : Obligations.Read_Report_returns_the_whole_report := by
  intro s tag r hp hs hr
  refine ⟨r.encode, ?exec, ?length, (slice_report r (i := 0) (by decide) :), (slice_report r (i := 1) (by decide) :),
    (slice_report r (i := 2) (by decide) :), (slice_report r (i := 3) (by decide) :),
    (slice_report r (i := 4) (by decide) :), (slice_report r (i := 5) (by decide) :),
    (slice_report r (i := 6) (by decide) :), ?lanes, (slice_report r (i := 8) (by decide) :),
    fun i => ⟨fun h => ?freeEntry, fun e h => slice_report_entry_used r h⟩,
    fun d => ⟨fun h => ?freeDuty, fun u h => slice_report_duty_used r h⟩, ?matchCounts, ?stats,
    (slice_report r (i := 13) (by decide) :)⟩
  case exec =>
    have body : s.report.elim [] WakeReport.encode = r.encode := by rw [hs]; rfl
    refine (congrArg Host.Outcome.next (takeRequest_of_accepts hr (Nat.zero_le _) (by simp [inReport, hp]) (by simp))).trans ?_
    simp only [settle, body]
    rfl
  case length => rw [encodeReport_eq, List.length_flatten, reportPieces_lengths]; rfl
  case lanes => exact slice_table r.lanes 18 2 16 (bytesOfNat_length 2) rfl (slice_report r (i := 7) (by decide))
  case freeEntry => rw [slice_report_entry, h]; rfl
  case freeDuty => rw [slice_report_duty, h]; rfl
  case matchCounts =>
    exact slice_table r.matchCounts 459 4 128 (bytesOfNat_length 4) rfl (slice_report r (i := 11) (by decide))
  case stats =>
    refine (slice_report r (i := 12) (by decide)).trans ?_
    simp [reportPieces, Stats.encode]

end Sys2Proof.Machine
end

section
/-! SUPPORT. The Reclaim and the end of handback (R10, R13), Rearm, Detach and Clear Profile (R15 to R17), the timers that need
no queue (R2, R50, R52, R173); then the obligations O33, O34, O35, O59 and O60. -/

namespace Sys2Proof.Machine

variable {s : State} {tag : Byte} {q before rest : List TxEntry} {e : TxEntry}

/-! ### Handback completion -/

@[simp] theorem getElem_mapTable {α β : Type} {n : Nat} (f : α → β) (v : Vector α n) (i : Fin n) :
    (mapTable f v)[i] = f v[i] := by
  simp [mapTable]

theorem handbackIfClear_of_clear (hp : s.proxy = .handback) (hq : someInFlight s.queue = false) :
    handbackIfClear s = completeHandback s := by
  rcases handbackIfClear_cases s with ⟨-, -, e⟩ | ⟨h, -⟩
  · exact e
  · simp [hp, hq] at h

theorem handbackIfClear_of_inFlight (hq : someInFlight s.queue = true) : handbackIfClear s = s := by
  rcases handbackIfClear_cases s with ⟨-, h, -⟩ | ⟨-, e⟩
  · simp [hq] at h
  · exact e

/-- What R13 and R183 say handback leaves: OWNER HOST sent, REPORT, HANDBACK_DONE pending, and a report of the state. -/
def HandedBack (s t : State) : Prop :=
  ∃ report : WakeReport,
    t = { s with
      owner := .host
      portOut := s.portOut ++ [.owner .host]
      report := some report
      proxy := .report
      handbackDonePending := true } ∧
    report.proxyAtReclaim = s.reclaimState ∧ report.reclaimTime = s.reclaimTime ∧ report.completionTime = s.elapsed ∧
    report.hostInitiated = s.hostInitiated ∧ report.reasons = s.reasons ∧ report.firstReason = s.firstReason ∧
    report.resignals = s.resignals ∧ report.lanes = s.lanes ∧ report.net = s.net ∧
    report.matchCounts = s.matchCounts ∧ report.stats = s.stats ∧ report.heldRecords = s.held.length ∧
    report.heldBytes = (s.held.map fun h => h.frame.length).sum ∧
    (∀ i : Fin 16, report.entries[i] = (s.entries[i]).map fun e =>
      { kind := e.value.kind, state := e.state, conflicts := e.conflicts, claimant := e.lastClaimant }) ∧
    ∀ d : Fin 12, report.duties[d] = (s.duties[d]).duty.map fun u =>
      { state := u.run.state, outcome := u.run.lastOutcome, runsCompleted := u.run.runsCompleted,
        failedRounds := u.run.failedRounds, triesUsed := u.run.triesUsed, counter := u.run.counter,
        lastCapture := u.run.lastCapture, capturedInterval := u.run.capturedInterval }

theorem assembleReport_entries (s : State) :
    (assembleReport s).entries = mapTable (fun e => e.map AddrEntry.report) s.entries := rfl

theorem assembleReport_duties (s : State) :
    (assembleReport s).duties = mapTable (fun slot : DutySlot => slot.duty.map fun u => u.run.report) s.duties := rfl

theorem completeHandback_handedBack (s : State) : HandedBack s (completeHandback s) := by
  refine ⟨assembleReport (sendOwner .host s), rfl, rfl, rfl, rfl, rfl, rfl, rfl, rfl, rfl, rfl, rfl, rfl, rfl, rfl,
    fun i => ?_, fun d => ?_⟩
  · rw [assembleReport_entries, getElem_mapTable]
    rfl
  · rw [assembleReport_duties, getElem_mapTable]
    rfl

/-! ### The blocks stopped by a Reclaim -/

/-- The state a Reclaim leaves before handback is looked at: HANDBACK, and the blocks stopped (R10). -/
def stopBlocks (s : State) : State :=
  { stopTimers (mapRuns (fun _ _ r => r.abandon) (dropQueued s)) with
    proxy := .handback
    wake := false
    hostInitiated := s.proxy == .proxy
    reclaimState := s.proxy
    reclaimTime := s.elapsed }

theorem takePortBack_eq (s : State) : takePortBack s = handbackIfClear (stopBlocks s) := rfl

theorem exec_reclaim_of_active (ha : s.active = true) (hr : s.reply = none) :
    exec (.reclaim (requestOf tag [])) s = .next { takePortBack s with reply := some (okReply 0x0D tag []) } :=
  congrArg Host.Outcome.next (takeRequest_of_accepts hr (Nat.zero_le _) (by simpa [inActive, State.active] using ha) (by simp))

/-- BLOCKED, QUEUED and AWAITING are given up (R10, R134). -/
theorem DutyRun.abandon_eq (r : DutyRun) :
    r.abandon = { r with
      lastOutcome := if r.state = .blocked ∨ r.state = .queued ∨ r.state = .awaiting then .abandoned else r.lastOutcome } := by
  obtain ⟨state⟩ := r
  cases state <;> simp [DutyRun.abandon]

/-- The duties once a Reclaim has stopped them: what was under way ABANDONED, no timer running. -/
theorem stopBlocks_duties (s : State) :
    (stopBlocks s).duties = Vector.ofFn fun d : Fin 12 => { s.duties[d] with
      duty := (s.duties[d]).duty.map fun u => { u with
        run := { u.run with
          lastOutcome :=
            if u.run.state = .blocked ∨ u.run.state = .queued ∨ u.run.state = .awaiting then .abandoned
            else u.run.lastOutcome
          timer := none } } } := by
  simp [stopBlocks, stopTimers, mapRuns, mapTable, dropQueued, DutyRun.abandon_eq, Function.comp_def]

theorem stopBlocks_entries (s : State) :
    (stopBlocks s).entries = Vector.ofFn fun i : Fin 16 =>
      (s.entries[i]).map fun e => { e with tentativeTimer := none, contestTimer := none } := rfl

theorem stopBlocks_queue (s : State) : (stopBlocks s).queue = s.queue.filter fun e => e.inFlight := rfl

theorem someInFlight_filter (q : List TxEntry) : someInFlight (q.filter fun e => e.inFlight) = someInFlight q := by
  simp [someInFlight, List.any_filter]

theorem filter_of_none_inFlight (h : someInFlight q = false) : (q.filter fun e => e.inFlight) = [] :=
  List.filter_eq_nil_iff.2 fun e he => by simp [(someInFlight_eq_false q).1 h e he]

theorem countP_of_none_inFlight (h : someInFlight q = false) :
    (q.countP fun e => !e.inFlight && e.cls != .duty) = q.countP fun e => e.cls != .duty :=
  List.countP_congr fun e he => by simp [(someInFlight_eq_false q).1 h e he]

/-- Settles O33: with a frame in flight handback does not complete, and the stopped state is the one described. -/
theorem reclaim_stops_the_blocks : Obligations.Reclaim_stops_the_blocks := by
  intro s tag ha hr hq
  have waits : takePortBack s = stopBlocks s :=
    handbackIfClear_of_inFlight ((someInFlight_filter s.queue).trans hq)
  rw [exec_reclaim_of_active ha hr, waits, ← stopBlocks_duties, ← stopBlocks_entries]
  rfl

/-! ### Handback completed -/

theorem exec_transmitResult_of_handback (r : TxResult) (hp : s.proxy = .handback)
    (ht : takeInFlight s.queue = some (e, rest)) :
    exec (.transmitResult r) s = .next (handbackIfClear (handResult e.origin r { s with queue := rest })) := by
  have heard : (s.active || s.proxy == .handback) = true := by simp [hp]
  have back : (s.proxy == .handback) = true := by simp [hp]
  change Host.Outcome.next (completeTransmit r s) = _
  rw [completeTransmit, if_pos heard, ht]
  exact congrArg Host.Outcome.next (if_pos back)

/-- A transmit result in HANDBACK of the one entry in flight completes handback after its origin's share (R13). -/
theorem exec_transmitResult_completes (r : TxResult) (hp : s.proxy = .handback) (hq : s.queue = before ++ e :: rest)
    (he : e.inFlight = true) (still : ∀ x ∈ before ++ rest, x.inFlight = false)
    {left : State} (hl : handResult e.origin r { s with queue := before ++ rest } = left)
    (hlp : left.proxy = .handback) (hlq : left.queue = before ++ rest) :
    ∃ t, exec (.transmitResult r) s = .next t ∧ HandedBack left t := by
  have taken : takeInFlight s.queue = some (e, before ++ rest) := by
    rw [hq]
    exact takeInFlight_append before rest e (fun x hx => still x (List.mem_append_left _ hx)) he
  have clear : someInFlight left.queue = false := by
    rw [hlq]
    exact (someInFlight_eq_false _).2 still
  refine ⟨completeHandback left, ?_, completeHandback_handedBack left⟩
  rw [exec_transmitResult_of_handback r hp taken, hl, handbackIfClear_of_clear hlp clear]

/-- Settles O34: each of the three ways ends in `completeHandback` of the state described. -/
theorem handback_completes_with_nothing_in_flight : Obligations.Handback_completes_with_nothing_in_flight := by
  refine ⟨fun s hp hq => ?event, fun s tag ha hr hq => ?reclaim, fun s before rest e hp hq he still => ?transmit⟩
  case event =>
    exact ⟨completeHandback s, congrArg Host.Outcome.next (handbackIfClear_of_clear hp hq), completeHandback_handedBack s⟩
  case reclaim =>
    have clear : someInFlight (stopBlocks s).queue = false := (someInFlight_filter s.queue).trans hq
    have completes : takePortBack s = completeHandback (stopBlocks s) := handbackIfClear_of_clear rfl clear
    refine ⟨completeHandback (stopBlocks s), by rw [exec_reclaim_of_active ha hr, completes], ?_⟩
    have handed := completeHandback_handedBack (stopBlocks s)
    rw [← stopBlocks_duties, ← stopBlocks_entries, ← countP_of_none_inFlight hq, ← filter_of_none_inFlight hq]
    exact handed
  case transmit =>
    have still' : s.active = false := by simp [State.active, hp]
    refine ⟨fun i hi => ⟨?sent, ?refused⟩, fun d r hd => ?duty⟩
    case sent => exact exec_transmitResult_completes .sent hp hq he still (by rw [hi]; rfl) hp rfl
    case refused => exact exec_transmitResult_completes .refused hp hq he still (by rw [hi]; rfl) hp rfl
    case duty =>
      refine exec_transmitResult_completes r hp hq he still ?_ hp rfl
      rw [hd]
      exact if_neg (by simpa [State.active] using still')

/-! ### Rearm, Detach and Clear Profile -/

theorem Curve.point_zero (c : Curve) : c.point 0 = c.points[0] := c.point_of_lt (by decide)

/-- Settles O35: the three requests are performed, and the states are the model's, record by record. -/
theorem rearm_keeps_and_Detach_clears_the_profile : Obligations.Rearm_keeps_and_Detach_clears_the_profile := by
  intro s tag hr idle cleared
  refine ⟨fun hp => ?rearm, fun hp => ?detach, fun hp => ?clear⟩
  case rearm =>
    refine (congrArg Host.Outcome.next (takeRequest_of_accepts hr (Nat.zero_le _) (by simp [inReport, hp]) (by simp))).trans ?_
    rw [← Curve.point_zero]
    rfl
  case detach =>
    exact congrArg Host.Outcome.next (takeRequest_of_accepts hr (Nat.zero_le _) (by simp [inReport, hp]) (by simp))
  case clear =>
    exact congrArg Host.Outcome.next (takeRequest_of_accepts hr (Nat.zero_le _) (by simp [inIdle, hp]) (by simp))

/-! ### Timers of the entries and of the WAKE line -/

theorem updEntry_of_inUse {i : Fin 16} {a : AddrEntry} (f : AddrEntry → AddrEntry) (h : s.entries[i] = some a) :
    updEntry i f s = { s with entries := s.entries.set i (some (f a)) } := by
  rw [updEntry, h]
  rfl

/-- Settles O59: the branch each clause's hypotheses choose. -/
theorem address_and_wake_timers_expire : Obligations.Address_and_wake_timers_expire := by
  refine ⟨fun s i a ha hi => ⟨fun hst ht => ?tentative, fun hst ht => ?contest⟩,
    fun s hp => ⟨fun ht hn => ?patience, fun ht hn => ?gap, fun ht hn => ?lastGap⟩⟩
  case tentative =>
    have running : (s.active && (s.entries[i]).any fun e => e.tentativeTimer.isSome) = true := by simp [ha, hi, ht]
    refine congrArg Host.Outcome.next ((if_pos running).trans ?_)
    rw [updEntry_of_inUse _ hi, AddrEntry.expireTentative, if_pos hst]
  case contest =>
    have running : (s.active && (s.entries[i]).any fun e => e.contestTimer.isSome) = true := by simp [ha, hi, ht]
    refine congrArg Host.Outcome.next ((if_pos running).trans ?_)
    rw [updEntry_of_inUse _ hi, AddrEntry.expireContest, if_pos hst]
  case patience =>
    have running : (s.proxy == .waking && s.patienceTimer.isSome) = true := by simp [hp, ht]
    exact congrArg Host.Outcome.next ((if_pos running).trans (if_pos hn))
  case gap =>
    have running : (s.proxy == .waking && s.gapTimer.isSome) = true := by simp [hp, ht]
    have more : s.resignals + 1 < Config.resignalLimit := hn
    refine congrArg Host.Outcome.next ((if_pos running).trans ?_)
    rw [if_pos more, Nat.mul_comm]
  case lastGap =>
    have running : (s.proxy == .waking && s.gapTimer.isSome) = true := by simp [hp, ht]
    have last : ¬s.resignals + 1 < Config.resignalLimit := by simp [Config.resignalLimit, hn]
    refine congrArg Host.Outcome.next ((if_pos running).trans ?_)
    rw [if_neg last, hn]

/-! ### Elapsed time -/

/-- Settles O60: the three branches of the event, the running-down of timers written out. -/
theorem elapsed_time_counts_and_timers_run_down : Obligations.Elapsed_time_counts_and_timers_run_down := by
  refine ⟨fun s hp => ?still, fun s hp => ?handback, fun s ha => ?active⟩
  case still =>
    have idle : s.active = false := by rcases hp with hp | hp <;> simp [State.active, hp]
    have away : (s.proxy == .handback) = false := by rcases hp with hp | hp <;> simp [hp]
    change Host.Outcome.next _ = _
    rw [idle, away]
    rfl
  case handback =>
    have stopped : s.active = false := by simp [State.active, hp]
    have back : (s.proxy == .handback) = true := by simp [hp]
    change Host.Outcome.next _ = _
    rw [stopped, back]
    rfl
  case active => exact congrArg Host.Outcome.next (if_pos ha)

end Sys2Proof.Machine
end

section
/-! SUPPORT. Bytes at the two ports read back (R188 to R190, R200, R201): a request's transaction and a record of the network
controller; then the obligations O3 and O4. -/

namespace Sys2Proof.Machine

variable {m : Request} {kind : Byte} {bytes : List Byte}

/-! ### The Control Link -/

/-- The two length bytes of a header carry the stated length, high byte first. -/
theorem statedBytes_toNat (m : Request) :
    (m.stated.extractLsb' 8 8).toNat * 256 + (m.stated.extractLsb' 0 8).toNat = m.stated.toNat := by
  have := m.stated.isLt
  simp only [BitVec.extractLsb'_toNat, Nat.shiftRight_eq_div_pow]
  omega

theorem statedBytes_append (m : Request) : m.stated.extractLsb' 8 8 ++ m.stated.extractLsb' 0 8 = m.stated := by
  refine BitVec.eq_of_toNat_eq ?_
  rw [BitVec.toNat_append, Nat.shiftLeft_eq, ← Nat.shiftLeft_eq, ← Nat.shiftLeft_add_eq_or_of_lt (by omega), Nat.shiftLeft_eq]
  exact statedBytes_toNat m

/-- A complete message is not cut short (R189). -/
theorem cutShort_encode (hc : m.complete = true) :
    cutShort (kind :: m.tag :: m.stated.extractLsb' 8 8 :: m.stated.extractLsb' 0 8 :: m.body) = false := by
  simp only [Request.complete, Bool.or_eq_true, decide_eq_true_eq] at hc
  simp only [cutShort, statedBytes_toNat, Bool.and_eq_false_iff, decide_eq_false_iff_not]
  omega

/-- The transaction of a complete request is the command of its kind byte (R189, R190). -/
theorem linkTransaction_encode (hc : m.complete = true) : linkTransaction (m.encode kind) = requestOfKind kind m := by
  change writeTransaction (kind :: m.tag :: m.stated.extractLsb' 8 8 :: m.stated.extractLsb' 0 8 :: m.body) = _
  rw [writeTransaction, cutShort_encode hc]
  exact congrArg (fun n => requestOfKind kind { m with stated := n }) (statedBytes_append m)

/-- A kind byte outside the catalogue makes an UNKNOWN_KIND_REQUEST (R196). -/
theorem requestOfKind_of_unknown (h : inCatalogue kind = false) : requestOfKind kind m = .unknownKindRequest kind m := by
  simp only [inCatalogue, Bool.and_eq_false_iff, decide_eq_false_iff_not] at h
  unfold requestOfKind
  split
  case h_20 => rfl
  all_goals omega

theorem linkTransaction_of_otherCode (h : otherCode bytes = true) : linkTransaction bytes = .otherTransaction bytes := by
  cases bytes with
  | nil => rfl
  | cons c rest =>
    simp only [otherCode, Bool.and_eq_true, decide_eq_true_eq] at h
    simp only [linkTransaction, if_neg h.1, if_neg h.2]

theorem linkTransaction_of_cutShort (h : cutShort bytes = true) : linkTransaction (1 :: bytes) = .cutShortMessage bytes := by
  change writeTransaction bytes = _
  exact if_pos h

theorem linkTransaction_read (n : Nat) : linkTransaction (2 :: List.replicate n 0) = .read n := by
  change Instr.read (List.replicate n (0 : Byte)).length = _
  rw [List.length_replicate]

/-- Settles O3: every request goes by its kind byte; the other transactions by their code or by being cut short. -/
theorem link_transactions_decode_to_their_commands : Obligations.Link_transactions_decode_to_their_commands := by
  intro i bytes hw he
  cases i
  case otherTransaction bs =>
    obtain rfl : bs = bytes := Option.some.inj he
    exact linkTransaction_of_otherCode hw
  case cutShortMessage bs =>
    obtain rfl : 1 :: bs = bytes := Option.some.inj he
    exact linkTransaction_of_cutShort hw
  case read n =>
    obtain rfl : 2 :: List.replicate n 0 = bytes := Option.some.inj he
    exact linkTransaction_read n
  case unknownKindRequest kind m =>
    obtain rfl : m.encode kind = bytes := Option.some.inj he
    simp only [Instr.wellFormed, Bool.and_eq_true, Bool.not_eq_true'] at hw
    rw [linkTransaction_encode hw.2, requestOfKind_of_unknown hw.1]
  case setStation m | putAddress m | putGroup m | putRule m | putTemplate m | putPatchList m | putDuty m | setLanes m
      | setCurve m | setSignature m | clearProfile m | assume m | reclaim m | readReport m | fetchHeld m | rearm m
      | detach m | queryStatus m | resetPart m =>
    obtain rfl := Option.some.inj he
    exact linkTransaction_encode hw
  all_goals exact absurd he nofun

/-! ### The Frame Port -/

theorem portRecord_receivedFrame {frame : Frame} (h : frame.length < 65536) :
    portRecord (1 :: BitVec.ofNat 8 (frame.length / 256) :: BitVec.ofNat 8 frame.length :: frame) =
      some (.receivedFrame frame) := by
  refine if_pos ?_
  simp only [BitVec.toNat_ofNat]
  omega

/-- A record of an unknown type or value decodes to itself (R201). -/
theorem portRecord_of_ignored (h : ignoredRecord bytes = true) : portRecord bytes = some (.badRecord bytes) := by
  unfold ignoredRecord at h
  split at h
  case h_1 => exact absurd h nofun
  case h_2 t c =>
    by_cases result : t = 3
    · subst result
      obtain ⟨sent, refused⟩ : c ≠ 0 ∧ c ≠ 1 := by simpa only [if_true, Bool.and_eq_true, decide_eq_true_eq] using h
      exact (if_neg sent).trans (if_neg refused)
    · by_cases link : t = 4
      · subst link
        obtain ⟨up, down⟩ : c ≠ 1 ∧ c ≠ 2 := by
          simpa only [if_neg result, if_true, Bool.and_eq_true, decide_eq_true_eq] using h
        exact (if_neg up).trans (if_neg down)
      · have frame : t ≠ 1 := by simpa only [if_neg result, if_neg link, decide_eq_true_eq] using h
        exact (if_neg frame).trans ((if_neg result).trans (if_neg link))
  case h_3 t rest _ =>
    simp only [Bool.and_eq_true, decide_eq_true_eq] at h
    obtain ⟨⟨frame, result⟩, link⟩ := h
    exact (if_neg frame).trans ((if_neg result).trans (if_neg link))

/-- Settles O4: the records of the network controller one by one. -/
theorem port_records_decode_to_their_commands : Obligations.Port_records_decode_to_their_commands := by
  intro i bytes hw he
  cases i
  case receivedFrame frame =>
    obtain rfl := Option.some.inj he
    exact portRecord_receivedFrame (of_decide_eq_true hw)
  case transmitResult r =>
    cases r <;> obtain rfl := Option.some.inj he <;> rfl
  case linkState l =>
    cases l <;> obtain rfl := Option.some.inj he <;> rfl
  case badRecord bs =>
    obtain rfl : bs = bytes := Option.some.inj he
    exact portRecord_of_ignored hw
  all_goals exact absurd he nofun

end Sys2Proof.Machine
end

section
/-! SUPPORT. The work within an event: the primitive updates it is made of, and that each operation of the blocks is a series
of them. A property that every primitive update keeps is kept by every such operation. -/

namespace Sys2Proof.Machine

variable {s t u : State}

/-! ### The primitive updates -/

/-- The frames counted at the four stages that answer nothing are no more than those received, until that count saturates (R45). -/
def Stats.StagesWithin (t : Stats) : Prop :=
  t.received < 4294967295 → t.malformed + t.foreignDest + t.muted + t.unmatched ≤ t.received

/-- Statistics rise within their range, and the stage counts no further than the received frames. -/
structure Stats.Raises (t u : Stats) : Prop where
  inRange : t.InRange → u.InRange
  stages : t.StagesWithin → u.StagesWithin

/-- One primitive update of the work within an event in PROXY, WAKING or HANDBACK. -/
inductive Touch : State → State → Prop
  /-- A duty's run-time state changes. -/
  | run (d : Fin 12) (f : DutyRun → DutyRun) (s : State) : Touch s (updRun d f s)
  /-- Every duty's run-time state changes. -/
  | runs (f : Fin 12 → DutySlot → DutyRun → DutyRun) (s : State) : Touch s (mapRuns f s)
  /-- A frame joins the Transmit Queue (R85). -/
  | enqueue (o : Origin) (c : TxClass) (f : Frame) (s : State) : Touch s (enqueue o c f s)
  /-- The network state moves between those of a link that is up (R137). -/
  | net (n : NetState) (s : State) (up : s.net ≠ .linkDown) (stays : n ≠ .linkDown)
      (signed : n = .attached ∨ s.signature.isSome = true ∨ s.net = .checking) : Touch s { s with net := n }
  /-- An addition (R164). -/
  | weight (j : Fin 8) (w : Nat) (s : State) : Touch s (addWeight j w s)
  /-- A frame is counted as load (R28). -/
  | load (s : State) : Touch s { s with windowCount := satAdd16 s.windowCount 1 }
  /-- A rule's match is counted (R37). -/
  | matched (i : Fin 32) (s : State) : Touch s (countMatch i s)
  /-- A statistic is raised. -/
  | stats (f : Stats → Stats) (s : State) (raises : s.stats.Raises (f s.stats)) : Touch s (s.count f)
  /-- An ORDINARY answer is spent (R87). -/
  | spend (s : State) (within : s.spent < s.budget) : Touch s { s with spent := s.spent + 1 }
  /-- A frame is held (R179). -/
  | hold (i : Fin 32) (f : Frame) (s : State) (size : 14 ≤ f.length ∧ f.length ≤ 1522)
      (room : s.held.length < 4 ∧ heldBytes s + f.length ≤ 6144) :
      Touch s { s with held := s.held ++ [{ time := s.elapsed, rule := i, frame := f }] }
  /-- A claim is recorded (R54). -/
  | record (i : Fin 16) (a : LinkAddr) (s : State) : Touch s (updEntry i (AddrEntry.recordClaim a) s)
  /-- A DEFENDED entry is contested (R55). -/
  | contest (i : Fin 16) (e : AddrEntry) (s : State) (inUse : s.entries[i] = some e) (defended : e.state = .defended) :
      Touch s (updEntry i (fun a =>
        { a with state := .contested, contestTimer := some (s.station.contestWindow * 1000) }) s)
  /-- An entry is lost (R55, R56). -/
  | lose (i : Fin 16) (s : State) : Touch s (updEntry i AddrEntry.lose s)

/-- A series of primitive updates. -/
abbrev Works : State → State → Prop := Relation.ReflTransGen Touch

theorem Touch.works (h : Touch s t) : Works s t := Relation.ReflTransGen.single h

theorem Works.refl (s : State) : Works s s := Relation.ReflTransGen.refl

/-- A property that every primitive update keeps is kept by a series of them. -/
theorem Works.keeps {P : State → Prop} (touch : ∀ s t, Touch s t → P s → P t) (h : Works s t) (hs : P s) : P t := by
  induction h with
  | refl => exact hs
  | tail _ last ih => exact touch _ _ last ih

/-- A series of operations that each work. -/
theorem Works.foldl {α : Type} {f : State → α → State} (hf : ∀ s a, Works s (f s a)) (l : List α) (s : State) :
    Works s (l.foldl f s) := by
  induction l generalizing s with
  | nil => exact .refl s
  | cons a l ih => exact (hf s a).trans (ih _)

/-! ### What every primitive update leaves alone -/

/-- `t` agrees with `s` in everything the work within an event leaves alone: the profile's plain tables, the link and its
owner, the timers of the blocks, what the Control Link holds, and what was sent. -/
structure SameFrame (s t : State) : Prop where
  active : t.active = s.active
  elapsed : t.elapsed = s.elapsed
  hostInitiated : t.hostInitiated = s.hostInitiated
  reclaimState : t.reclaimState = s.reclaimState
  reclaimTime : t.reclaimTime = s.reclaimTime
  station : t.station = s.station
  groups : t.groups = s.groups
  rules : t.rules = s.rules
  pool : t.pool = s.pool
  patchLists : t.patchLists = s.patchLists
  linkState : t.linkState = s.linkState
  owner : t.owner = s.owner
  signature : t.signature = s.signature
  curve : t.curve = s.curve
  budget : t.budget = s.budget
  stormVote : t.stormVote = s.stormVote
  windowTimer : t.windowTimer = s.windowTimer
  laneSettings : t.laneSettings = s.laneSettings
  resignals : t.resignals = s.resignals
  decayTimer : t.decayTimer = s.decayTimer
  settleTimer : t.settleTimer = s.settleTimer
  gapTimer : t.gapTimer = s.gapTimer
  report : t.report = s.report
  reply : t.reply = s.reply
  readyPending : t.readyPending = s.readyPending
  handbackDonePending : t.handbackDonePending = s.handbackDonePending
  portOut : t.portOut = s.portOut
  linkOut : t.linkOut = s.linkOut
  freeCount : t.freeCount = s.freeCount
  pending : t.pending = s.pending

theorem SameFrame.refl (s : State) : SameFrame s s := by constructor <;> rfl

theorem SameFrame.trans (h : SameFrame s t) (k : SameFrame t u) : SameFrame s u := by
  cases h
  cases k
  constructor <;> simp only [*]

theorem Touch.sameFrame (h : Touch s t) : SameFrame s t := by
  cases h
  case weight j w => constructor <;> simp
  all_goals constructor <;> rfl

theorem Works.sameFrame (h : Works s t) : SameFrame s t :=
  h.keeps (P := SameFrame s) (fun _ _ touch k => k.trans touch.sameFrame) (SameFrame.refl s)

/-! ### Tries, runs, the arbiter -/

theorem enqueue_works (o : Origin) (c : TxClass) (f : Frame) (s : State) : Works s (enqueue o c f s) :=
  (Touch.enqueue o c f s).works

theorem makeTry_works (d : Fin 12) (s : State) : Works s (makeTry d s) := by
  unfold makeTry
  split
  · exact .refl s
  · split
    · exact (Touch.run d _ s).works
    · split
      · exact (Touch.run d _ s).works
      · split
        · exact (enqueue_works _ _ _ s).tail (Touch.run d _ _)
        · exact (Touch.run d _ s).works

theorem startRun_works (d : Fin 12) (s : State) : Works s (startRun d s) := by
  unfold startRun
  split
  · exact .refl s
  · exact (Touch.run d _ s).works.trans (makeTry_works d _)

theorem beginRun_works (d : Fin 12) (s : State) : Works s (beginRun d s) := by
  unfold beginRun
  split
  · exact .refl s
  · split
    · exact (Touch.run d _ s).works
    · split
      · exact (Touch.run d _ s).works
      · exact startRun_works d s

theorem resumeDuty_works (s : State) (d : Fin 12) : Works s (resumeDuty s d) := by
  unfold resumeDuty
  split
  · exact .refl s
  · split
    · split
      · exact beginRun_works d s
      · exact makeTry_works d s
      · exact .refl s
    · exact .refl s

theorem resumeDeferred_works (s : State) : Works s (resumeDeferred s) := Works.foldl resumeDuty_works _ s

theorem offerTo_works (len : Nat) (s : State) (d : Fin 12) : Works s (offerTo len s d) := by
  unfold offerTo
  split
  · exact makeTry_works d s
  · exact .refl s

theorem offerPlace_works (s : State) : Works s (offerPlace s) := by
  unfold offerPlace
  split
  · exact Works.foldl (offerTo_works _) _ s
  · exact .refl s

theorem offerPlaces_works (n : Nat) (s : State) : Works s (offerPlaces n s) := by
  induction n generalizing s with
  | zero => exact .refl s
  | succ n ih => exact (offerPlace_works s).trans (ih _)

theorem arbiter_works (s : State) : Works s (arbiter s) := offerPlaces_works _ s

/-! ### The end of a run -/

theorem succeedRun_works (d : Fin 12) (f : Option Frame) (s : State) : Works s (succeedRun d f s) := by
  unfold succeedRun
  split
  · exact .refl s
  · exact (Touch.run d _ s).works

theorem failureAction_works (d : Fin 12) (s : State) : Works s (failureAction d s) := by
  unfold failureAction
  split
  · exact .refl s
  · split
    · exact (Touch.weight _ _ s).works.tail (Touch.run d _ _)
    · exact (Touch.run d _ s).works
    · exact (Touch.run d _ s).works

/-! ### The Network Check -/

theorem enterForeign_works (up : s.net ≠ .linkDown) (signed : s.signature.isSome = true ∨ s.net = .checking) : Works s (enterForeign s) := by
  have foreign : Works s { s with net := .foreign } := (Touch.net .foreign s up nofun (.inr signed)).works
  unfold enterForeign
  dsimp only
  split
  · exact (foreign.tail (Touch.weight _ _ _)).tail (Touch.runs _ _)
  · exact foreign.tail (Touch.runs _ _)

theorem probing_iff {d : Fin 12} : probing s d = true ↔ s.net = .checking ∧ (s.duties[d]).probe = true := by
  simp [probing]

theorem probeForeign_works {d : Fin 12} (h : s.net = .checking) : Works s (probeForeign d s) :=
  (Touch.run d _ s).works.trans (enterForeign_works (by simp [h]) (.inr h))

theorem failRound_works (d : Fin 12) : Works s (failRound d s) := by
  unfold failRound
  split
  · exact .refl s
  · split
    · next hp => exact (Touch.run d _ s).works.trans (probeForeign_works (probing_iff.1 hp).1)
    · dsimp only
      split
      · exact (Touch.run d _ s).works
      · exact (Touch.run d _ s).works.trans (failureAction_works d _)

theorem failTry_works (d : Fin 12) : Works s (failTry d s) := by
  unfold failTry
  split
  · exact .refl s
  · dsimp only
    split
    · exact (Touch.run d _ s).works.trans (makeTry_works d _)
    · exact (Touch.run d _ s).works.trans (failRound_works d)

theorem takeReply_works (d : Fin 12) (f : Frame) : Works s (takeReply d f s) := by
  unfold takeReply
  dsimp only
  split
  · next hp =>
    have checking := (probing_iff.1 hp).1
    split
    · have attached : Works s { s with net := .attached } :=
        (Touch.net .attached s (by simp [checking]) nofun (.inl rfl)).works
      exact (attached.trans (succeedRun_works d _ _)).trans (resumeDeferred_works _)
    · exact probeForeign_works checking
  · split
    · next h =>
      simp only [Bool.and_eq_true, beq_iff_eq] at h
      obtain ⟨⟨⟨attached, -⟩, present⟩, -⟩ := h
      have same := (succeedRun_onlyDuties d (some f) s).eq
      have net : (succeedRun d (some f) s).net = s.net := (congrArg State.net same :)
      have signature : (succeedRun d (some f) s).signature = s.signature := (congrArg State.signature same :)
      exact (succeedRun_works d _ s).trans
        (enterForeign_works (by simp [net, attached]) (.inl (by rw [signature]; exact present)))
    · exact succeedRun_works d _ s

theorem takeReject_works (d : Fin 12) : Works s (takeReject d s) := by
  unfold takeReject
  dsimp only
  split
  · next hp => exact (Touch.run d _ s).works.trans (probeForeign_works (probing_iff.1 hp).1)
  · exact (Touch.run d _ s).works.trans (failureAction_works d _)

theorem consumeFrame_works (d : Fin 12) (f : Frame) : Works s (consumeFrame d f s) := by
  unfold consumeFrame
  split
  · exact takeReply_works d f
  · exact takeReject_works d

theorem dutyResult_works (d : Fin 12) (r : TxResult) : Works s (dutyResult d r s) := by
  unfold dutyResult
  split
  · exact .refl s
  · split
    · exact .refl s
    · split
      · exact (Touch.run d _ s).works.trans (makeTry_works d _)
      · split
        · exact failTry_works d
        · split
          · exact (Touch.run d _ s).works
          · exact succeedRun_works d _ s

theorem restartProbe_works (s : State) : Works s (restartProbe s) := by
  unfold restartProbe
  split
  · exact .refl s
  · split
    · exact .refl s
    · dsimp only
      split
      · exact (Touch.run _ _ s).works.tail (Touch.run _ _ _)
      · exact (Touch.run _ _ s).works.trans (makeTry_works _ _)

/-! ### The statistics -/

theorem satAdd32_le (n k : Nat) : satAdd32 n k ≤ 4294967295 := Nat.min_le_right _ _

/-- A statistic that no stage of the receive path counts is raised. -/
theorem Stats.raises_of_satAdd (f : Stats → Stats)
    (h : f = (fun c => { c with withheld := satAdd32 c.withheld 1 }) ∨
      f = (fun c => { c with overBudget := satAdd32 c.overBudget 1 }) ∨
      f = (fun c => { c with holdRefused := satAdd32 c.holdRefused 1 }) ∨
      f = (fun c => { c with answersSent := satAdd32 c.answersSent 1 }) ∨
      f = (fun c => { c with answersRefused := satAdd32 c.answersRefused 1 }) ∨
      f = (fun c => { c with queueFull := satAdd32 c.queueFull 1 }) ∨
      f = (fun c => { c with essentialDrop := satAdd32 c.essentialDrop 1 }) ∨
      f = (fun c => { c with stormWindows := satAdd32 c.stormWindows 1 })) (c : Stats) : c.Raises (f c) := by
  rcases h with rfl | rfl | rfl | rfl | rfl | rfl | rfl | rfl <;>
    exact ⟨fun r => by cases r; constructor <;> simp [satAdd32_le, *], id⟩

/-- A frame is counted as received, and it may end at one of the four stages that answer nothing. -/
theorem Stats.raises_of_received (f : Stats → Stats)
    (h : f = (fun c => { c with received := satAdd32 c.received 1 }) ∨
      f = (fun c => { c with received := satAdd32 c.received 1, malformed := satAdd32 c.malformed 1 }) ∨
      f = (fun c => { c with received := satAdd32 c.received 1, foreignDest := satAdd32 c.foreignDest 1 }) ∨
      f = (fun c => { c with received := satAdd32 c.received 1, muted := satAdd32 c.muted 1 }) ∨
      f = (fun c => { c with received := satAdd32 c.received 1, unmatched := satAdd32 c.unmatched 1 }))
    (c : Stats) : c.Raises (f c) := by
  rcases h with rfl | rfl | rfl | rfl | rfl <;>
    refine ⟨fun r => by cases r; constructor <;> simp [satAdd32_le, *], fun within => ?_⟩ <;>
    simp only [Stats.StagesWithin, satAdd32, Config.max32] at within ⊢ <;> omega

theorem countResult_works (r : TxResult) (s : State) : Works s (countResult r s) := by
  unfold countResult
  cases r <;> exact (Touch.stats _ s (Stats.raises_of_satAdd _ (by simp) _)).works

theorem handResult_works (o : Origin) (r : TxResult) : Works s (handResult o r s) := by
  unfold handResult
  split
  · exact countResult_works r s
  · split
    · exact dutyResult_works _ r
    · exact .refl s

/-! ### Received frames -/

theorem offerAnswer_works (i : Fin 32) (c : AnswerClass) (f : Frame) (s : State)
    (within : c = .ordinary → s.spent < s.budget) : Works s (offerAnswer i c f s) := by
  rcases offerAnswer_cases i c f s with ⟨hc, -, -, e⟩ | ⟨-, -, e⟩ | ⟨-, -, e⟩ | ⟨-, -, e⟩ <;> rw [e]
  · exact (Touch.spend s (within hc)).works.trans (enqueue_works _ _ _ _)
  · exact (Touch.stats _ s (Stats.raises_of_satAdd _ (by simp) _)).works
  · exact enqueue_works _ _ _ s
  · exact (Touch.stats _ s (Stats.raises_of_satAdd _ (by simp) _)).works

theorem answerWith_works (i : Fin 32) (r : Rule) (c : AnswerClass) (f : Frame) (m : Option (Fin 16)) (s : State)
    (within : c = .ordinary → s.spent < s.budget) : Works s (answerWith i r c f m s) := by
  unfold answerWith
  split
  · exact .refl s
  · exact offerAnswer_works _ _ _ s within

theorem actAnswer_works (i : Fin 32) (r : Rule) (f : Frame) (m : Option (Fin 16)) (s : State) :
    Works s (actAnswer i r f m s) := by
  unfold actAnswer
  split
  · exact (Touch.stats _ s (Stats.raises_of_satAdd _ (by simp) _)).works
  · split
    · exact (Touch.stats _ s (Stats.raises_of_satAdd _ (by simp) _)).works
    · next h => exact answerWith_works i r _ f m s fun hc => by simpa [hc] using h

theorem actHold_works (i : Fin 32) {f : Frame} (s : State) (size : 14 ≤ f.length ∧ f.length ≤ 1522) :
    Works s (actHold i f s) := by
  unfold actHold
  split
  · next room => exact (Touch.hold i f s size room).works
  · exact (Touch.stats _ s (Stats.raises_of_satAdd _ (by simp) _)).works

theorem ruleClaim_works (i : Fin 16) (a : LinkAddr) (s : State) : Works s (ruleClaim i a s).1 := by
  unfold ruleClaim
  split
  · exact .refl s
  · split
    · exact .refl s
    · next e inUse =>
      have recorded : Works s (updEntry i (AddrEntry.recordClaim a) s) := (Touch.record i a s).works
      have lost : Works s (addWeight s.station.conflictLane s.station.conflictWeight
          (updEntry i AddrEntry.lose (updEntry i (AddrEntry.recordClaim a) s))) :=
        (recorded.tail (Touch.lose i _)).tail (Touch.weight _ _ _)
      dsimp only
      split
      · next defended =>
        exact recorded.tail (Touch.contest i (e.recordClaim a) _ (by simp [updEntry, inUse]) defended)
      · exact lost
      · exact lost
      · exact recorded

theorem actClaim_works (i : Fin 32) (r : Rule) (f : Frame) (m : Option (Fin 16)) (s : State) :
    Works s (actClaim i r f m s) := by
  unfold actClaim
  split
  · exact .refl s
  · dsimp only
    split
    · exact (ruleClaim_works _ _ s).trans (answerWith_works i r .essential f _ _ nofun)
    · exact ruleClaim_works _ _ s

theorem dispatch_works (i : Fin 32) {f : Frame} (m : Option (Fin 16)) (s : State) (size : 14 ≤ f.length ∧ f.length ≤ 1522) :
    Works s (dispatch i f m s) := by
  have counted : Works s (countMatch i s) := (Touch.matched i s).works
  have acted : Works (countMatch i s) (act i s.rules[i] f m (countMatch i s)) := by
    unfold act
    split
    · exact actAnswer_works i _ f m _
    · exact actHold_works i _ size
    · exact .refl _
    · exact actClaim_works i _ f m _
    · exact .refl _
  exact (counted.trans acted).tail (Touch.weight _ _ _)

theorem dispatchHandback_works (i : Fin 32) {f : Frame} (s : State) (size : 14 ≤ f.length ∧ f.length ≤ 1522) :
    Works s (dispatchHandback i f s) := by
  have counted : Works s (countMatch i s) := (Touch.matched i s).works
  unfold dispatchHandback
  split
  · exact counted.trans (actHold_works i _ size)
  · exact counted

theorem countLoad_works (c : DestClass) (s : State) : Works s (countLoad c s) := by
  cases c
  case own => exact .refl s
  all_goals exact (Touch.load s).works

/-! ### Timers of the duties -/

theorem expireDutyTimer_works (d : Fin 12) (s : State) : Works s (expireDutyTimer d s) := by
  unfold expireDutyTimer
  split
  · exact .refl s
  · split
    · exact (Touch.run d _ s).works.trans (beginRun_works d _)
    · exact .refl s

theorem expireReplyWindow_works (d : Fin 12) : Works s (expireReplyWindow d s) := by
  unfold expireReplyWindow
  split
  · exact .refl s
  · split
    · exact (Touch.run d _ s).works.trans (failTry_works d)
    · exact .refl s

theorem expireBackoff_works (d : Fin 12) (s : State) : Works s (expireBackoff d s) := by
  unfold expireBackoff
  split
  · exact .refl s
  · split
    · exact (Touch.run d _ s).works.trans (makeTry_works d _)
    · exact .refl s

end Sys2Proof.Machine
end

section
/-! SUPPORT. What the requests that load the profile read from their bodies: every field in its range (R195), whatever the body
holds; and the changes these requests make. -/

namespace Sys2Proof.Machine

variable {s t : State} {b p : List Byte} {seed : Nat}

/-! ### Numbers read from a body -/

theorem length_slice_le (b : List Byte) (off w : Nat) : (slice b off w).length ≤ w := List.length_take_le _ _

theorem readNat_lt (b : List Byte) (off w : Nat) : readNat b off w < 256 ^ w :=
  (natOfBytes_lt _).trans_le (Nat.pow_le_pow_right (by decide) (length_slice_le b off w))

theorem readNat_byte_le (b : List Byte) (off : Nat) : readNat b off 1 ≤ 255 := Nat.le_of_lt_succ (readNat_lt b off 1)

theorem readNat_word_le (b : List Byte) (off : Nat) : readNat b off 2 ≤ 65535 := Nat.le_of_lt_succ (readNat_lt b off 2)

/-- A clamped field is in its range (R195). -/
theorem Ranged.val_mem (raw : Nat) {lo hi : Nat} (h : lo ≤ hi) :
    lo ≤ Ranged.val ⟨raw, lo, hi⟩ ∧ Ranged.val ⟨raw, lo, hi⟩ ≤ hi := by
  unfold Ranged.val
  dsimp only
  split
  · exact ⟨le_rfl, h⟩
  · split <;> omega

theorem offsetField_le (b : List Byte) (off : Nat) : (offsetField b off).val ≤ 1513 :=
  (Ranged.val_mem _ (Nat.zero_le _)).2

theorem rangeField_le (p : List Byte) (off : Nat) : (rangeField p off).val ≤ 1514 :=
  (Ranged.val_mem _ (Nat.zero_le _)).2

theorem delayField_mem (b : List Byte) (off : Nat) {lo : Nat} (h : lo ≤ 604800) :
    lo ≤ (delayField b off lo).val ∧ (delayField b off lo).val ≤ 604800 := Ranged.val_mem _ h

theorem of_refuseIf_ok {α : Type} {bad : Bool} {st : Status} {rest : Except Status α} {a : α}
    (h : refuseIf bad st rest = .ok a) : bad = false ∧ rest = .ok a := by
  cases bad with
  | false => exact ⟨rfl, h⟩
  | true => exact absurd h nofun

theorem of_ite_error_ok {α : Type} {p : Prop} [Decidable p] {st : Status} {rest : Except Status α} {a : α}
    (h : (if p then .error st else rest) = .ok a) : ¬p ∧ rest = .ok a := by
  by_cases hp : p
  · rw [if_pos hp] at h
    cases h
  · exact ⟨hp, by rwa [if_neg hp] at h⟩

theorem of_ite_ok_ok {α : Type} {p : Prop} [Decidable p] {x a : α} {rest : Except Status α}
    (h : (if p then .ok x else rest) = .ok a) : x = a ∨ rest = .ok a := by
  by_cases hp : p
  · rw [if_pos hp] at h
    exact .inl (Except.ok.inj h)
  · exact .inr (by rwa [if_neg hp] at h)

/-- A code field that the body reaches and that is not refused has a meaning (R200). -/
theorem isSome_of_badCodeAt {α : Type} {codes : Nat → Option α} {off : Nat} (h : badCodeAt b off codes = false)
    (reached : off + 1 ≤ b.length) : (codes (readNat b off 1)).isSome = true := by
  rw [badCodeAt, field?, if_pos reached] at h
  simpa using h

/-! ### The station, entries, groups, lanes, the curve and the signature -/

theorem parseStation_inRange (b : List Byte) : (parseStation b).1.InRange where
  vlan := by
    intro v hv
    obtain ⟨lower, upper⟩ := Ranged.val_mem (readNat b 7 2) (by decide : 1 ≤ 4094)
    simp only [parseStation, Option.mem_def, Option.ite_none_right_eq_some, Option.some.injEq] at hv
    rw [← hv.2, BitVec.toNat_ofNat, Nat.mod_eq_of_lt (Nat.lt_of_le_of_lt upper (by decide : 4094 < 2 ^ 12))]
    exact ⟨lower, upper⟩
  settleHold := (Ranged.val_mem _ (by decide : 0 ≤ 5000)).2
  contestWindow := Ranged.val_mem _ (by decide)
  conflictWeight := readNat_word_le b 13
  wakePatience := Ranged.val_mem _ (by decide)
  decayPeriod := Ranged.val_mem _ (by decide)
  totalThreshold := (Ranged.val_mem _ (by decide : 0 ≤ 524280)).2

/-- An entry as Put Address stores it: its time in range, at its loaded state, with an empty conflict record (R47, R49). -/
structure AddrEntry.Fresh (e : AddrEntry) : Prop where
  time : 1 ≤ e.tentativeTime ∧ e.tentativeTime ≤ 10
  state : e.state = match e.loaded with | .tentative => .tentative | .defended => .defended
  conflicts : e.conflicts = 0
  claimant : e.lastClaimant = none
  tentativeTimer : e.tentativeTimer = none
  contestTimer : e.contestTimer = none

theorem parseAddress_fresh {i : Fin 16} {entry : Option AddrEntry} {clamped : Bool}
    (h : parseAddress b = .ok (i, entry, clamped)) : ∀ e ∈ entry, e.Fresh := by
  obtain ⟨-, h⟩ := of_refuseIf_ok h
  split at h
  · split at h <;> exact absurd h nofun
  · simp only [Except.ok.injEq, Prod.mk.injEq] at h
    rw [← h.2.1]
    exact nofun
  · obtain ⟨-, h⟩ := of_refuseIf_ok h
    obtain ⟨-, h⟩ := of_ite_error_ok h
    · split at h
      · simp only [Except.ok.injEq, Prod.mk.injEq] at h
        intro e he
        rw [← h.2.1, Option.mem_def, Option.some.injEq] at he
        subst he
        exact ⟨Ranged.val_mem _ (by decide), rfl, rfl, rfl, rfl, rfl⟩
      · exact absurd h nofun

theorem parseGroup_inRange {i : Fin 8} {g : GroupEntry} {clamped : Bool} (h : parseGroup b = .ok (i, g, clamped)) :
    1 ≤ g.matchLen ∧ g.matchLen ≤ 6 := by
  obtain ⟨-, h⟩ := of_refuseIf_ok h
  simp only [Except.ok.injEq, Prod.mk.injEq] at h
  rw [← h.2.1]
  exact Ranged.val_mem _ (by decide)

theorem parseLane_inRange (b : List Byte) (i : Nat) : (parseLane b i).1.InRange :=
  ⟨readNat_word_le _ _, (Ranged.val_mem _ (by decide : 0 ≤ 16)).2, readNat_word_le _ _⟩

theorem parseLanes_inRange {v : Vector LaneSetting 8} {clamped : Bool} (h : parseLanes b = .ok (v, clamped)) :
    ∀ j : Fin 8, (v[j]).InRange := by
  obtain ⟨-, h⟩ := of_refuseIf_ok h
  simp only [Except.ok.injEq, Prod.mk.injEq] at h
  intro j
  rw [← h.1]
  simpa using parseLane_inRange b j

theorem parseCurve_inRange (b : List Byte) : (parseCurve b).1.InRange where
  points := fun k => by simpa [parseCurve] using readNat_byte_le b k
  ramp := Ranged.val_mem _ (by decide)
  stormLevel := (Ranged.val_mem _ (by decide : 0 ≤ 1023)).2
  stormWeight := readNat_word_le b 13

theorem parseSignature_inRange {g : Option Signature} {clamped : Bool} (h : parseSignature b = .ok (g, clamped)) :
    ∀ x ∈ g, x.weight ≤ 65535 := by
  unfold parseSignature at h
  split at h
  · simp only [Except.ok.injEq, Prod.mk.injEq] at h
    rw [← h.1]
    exact nofun
  · obtain ⟨-, h⟩ := of_refuseIf_ok h
    simp only [Except.ok.injEq, Prod.mk.injEq] at h
    intro x hx
    rw [← h.1, Option.mem_def, Option.some.injEq] at hx
    rw [← hx]
    exact readNat_word_le b 9

/-! ### Compare items -/

/-- A raw item has as many value and mask bytes as its length byte says. -/
def RawItem.Whole (i : RawItem) : Prop := i.value.length = i.len ∧ i.mask.length = i.len

theorem takeItems_whole {n : Nat} {items : List RawItem} {rest : List Byte} (h : takeItems n b = some (items, rest)) :
    items.length = n ∧ ∀ i ∈ items, i.Whole := by
  induction n generalizing b items with
  | zero =>
    simp only [takeItems, Option.some.injEq, Prod.mk.injEq] at h
    rw [← h.1]
    exact ⟨rfl, nofun⟩
  | succ n ih =>
    simp only [takeItems] at h
    split at h
    · exact absurd h nofun
    · split at h
      · exact absurd h nofun
      · next long =>
        simp only [Option.map_eq_some_iff, Prod.exists, Prod.mk.injEq] at h
        obtain ⟨tail, after, taken, rfl, rfl⟩ := h
        obtain ⟨count, whole⟩ := ih taken
        refine ⟨by rw [List.length_cons, count], fun i hi => ?_⟩
        rcases List.mem_cons.1 hi with rfl | later
        · constructor <;> simp only [slice, List.length_take, List.length_drop] <;> omega
        · exact whole i later

theorem clampItems_length (seed : Nat) (items : List RawItem) : (clampItems seed items).1.length = items.length := by
  induction items generalizing seed with
  | nil => rfl
  | cons i is ih =>
    unfold clampItems
    dsimp only
    split <;> simp [ih]

theorem clampItems_inRange (seed : Nat) {items : List RawItem} (whole : ∀ i ∈ items, i.Whole) :
    ∀ c ∈ (clampItems seed items).1, c.InRange := by
  induction items generalizing seed with
  | nil => exact nofun
  | cons i is ih =>
    have rest := fun n => ih n fun x hx => whole x (List.mem_cons_of_mem i hx)
    obtain ⟨value, mask⟩ := whole i List.mem_cons_self
    have offset : (Ranged.val ⟨i.offset, 0, Config.maxOffset⟩) ≤ 1513 := (Ranged.val_mem _ (by decide)).2
    intro c hc
    unfold clampItems at hc
    dsimp only at hc
    split at hc
    · rcases List.mem_cons.1 hc with rfl | later
      · exact ⟨offset, Nat.le_refl 1, (by decide : 1 ≤ 8)⟩
      · exact rest _ c later
    · rcases List.mem_cons.1 hc with rfl | later
      · refine ⟨offset, ?_⟩
        simp only [List.length_take, List.length_zip]
        omega
      · exact rest _ c later

/-- The items of a body, clamped and stored, are in range (R32, R104). -/
theorem storedItems_inRange (seed : Nat) {n : Nat} {items : List RawItem} {rest : List Byte} (h : takeItems n b = some (items, rest))
    (few : n ≤ 4) : (clampItems seed items).1.length ≤ 4 ∧ ∀ c ∈ (clampItems seed items).1, c.InRange := by
  obtain ⟨count, whole⟩ := takeItems_whole h
  exact ⟨by rw [clampItems_length, count]; exact few, clampItems_inRange seed whole⟩

/-! ### Rules -/

theorem parseRule_inRange {i : Fin 32} {r : Rule} {clamped : Bool} {next : Nat}
    (h : parseRule seed b = .ok (i, r, clamped, next)) : r.InRange := by
  obtain ⟨-, h⟩ := of_refuseIf_ok h
  obtain ⟨codes, h⟩ := of_refuseIf_ok h
  obtain ⟨sizes, h⟩ := of_refuseIf_ok h
  simp only [Bool.or_eq_false_iff, decide_eq_false_iff_not, Nat.not_lt] at sizes codes
  obtain ⟨long, few⟩ := sizes
  split at h
  · next items taken =>
    split at h
    · next action cls _ _ =>
      obtain ⟨claim, h⟩ := of_refuseIf_ok h
      dsimp only at h
      simp only [Except.ok.injEq, Prod.mk.injEq] at h
      obtain ⟨-, rfl, -, -⟩ := h
      refine ⟨storedItems_inRange seed taken few, ?_, offsetField_le b 12, readNat_word_le b 20, fun isClaim => ?_⟩
      · intro a ha
        simp only [Option.mem_def, Option.ite_none_right_eq_some, Option.map_eq_some_iff] at ha
        obtain ⟨-, kind, -, rfl⟩ := ha
        exact offsetField_le b 8
      · have present : flagAt b 7 = true := by
          dsimp only at isClaim
          simpa [isClaim] using claim
        have reached : 7 + 1 ≤ b.length := by omega
        have named : badCodeAt b 10 refKindOfCode = false := by
          obtain ⟨-, ref⟩ := codes
          rw [field?, if_pos reached] at ref
          simp only [Option.any_some, Bool.and_eq_false_iff] at ref
          exact ref.resolve_left (by simpa [flagAt] using present)
        simpa [present] using isSome_of_badCodeAt named (by omega)
    · exact absurd h nofun
  · exact absurd h nofun

/-! ### Templates and patch lists -/

theorem parseTemplate_inRange {id : Fin 48} {bytes : List Byte} (h : parseTemplate b = .ok (id, bytes)) :
    14 ≤ bytes.length ∧ bytes.length ≤ 1514 := by
  obtain ⟨-, h⟩ := of_refuseIf_ok h
  obtain ⟨sizes, h⟩ := of_refuseIf_ok h
  simp only [Bool.or_eq_false_iff, decide_eq_false_iff_not, Nat.not_lt] at sizes
  simp only [Except.ok.injEq, Prod.mk.injEq] at h
  rw [← h.2, List.length_drop]
  omega

/-- A patch record without a fault reads as a patch in range (R68, R69). -/
theorem parsePatch_inRange (kind : patchBadKind p = false) (value : patchBadValue p = false) : (parsePatch p).1.InRange := by
  unfold parsePatch
  split
  · exact ⟨offsetField_le _ _, offsetField_le _ _, Ranged.val_mem _ (by decide)⟩
  · exact offsetField_le _ _
  · exact offsetField_le _ _
  · exact offsetField_le _ _
  · exact ⟨offsetField_le _ _, Ranged.val_mem _ (by decide)⟩
  · exact ⟨offsetField_le _ _, rangeField_le _ _⟩
  · next h1 h2 h3 h4 h5 h6 =>
    have sum : readNat p 0 1 = 7 := by
      unfold patchBadKind at kind
      split at kind <;> simp_all
    have order : (rangeField p 1).val ≤ (rangeField p 3).val := by
      simpa [patchBadValue, sum] using value
    exact ⟨order, rangeField_le _ _, offsetField_le _ _, offsetField_le _ _, offsetField_le _ _⟩

theorem parsePatchList_inRange {i : Fin 32} {list : Option (List Patch)} {clamped : Bool}
    (h : parsePatchList b = .ok (i, list, clamped)) : ∀ ps ∈ list, ps.length ≤ 8 ∧ ∀ q ∈ ps, q.InRange := by
  obtain ⟨-, h⟩ := of_refuseIf_ok h
  dsimp only at h
  split at h
  · exact absurd h nofun
  · split at h
    · simp only [Except.ok.injEq, Prod.mk.injEq] at h
      rw [← h.2.1]
      exact nofun
    · obtain ⟨sizes, h⟩ := of_refuseIf_ok h
      obtain ⟨kinds, h⟩ := of_refuseIf_ok h
      obtain ⟨-, h⟩ := of_refuseIf_ok h
      obtain ⟨values, h⟩ := of_refuseIf_ok h
      simp only [Except.ok.injEq, Prod.mk.injEq] at h
      rw [List.any_eq_false] at kinds values
      simp only [Bool.or_eq_false_iff, decide_eq_false_iff_not, Nat.not_lt] at sizes
      intro ps hps
      rw [← h.2.1, Option.mem_def, Option.some.injEq] at hps
      subst hps
      refine ⟨by simpa using sizes.1.2, fun q hq => ?_⟩
      obtain ⟨p, hp, rfl⟩ := List.mem_map.1 hq
      exact parsePatch_inRange (Bool.eq_false_iff.2 (kinds p hp)) (Bool.eq_false_iff.2 (values p hp))

/-! ### Duties -/

theorem patternAt_inRange {off : Nat} {items : List CompareItem} (h : items.length ≤ 4 ∧ ∀ c ∈ items, c.InRange) :
    ∀ q ∈ patternAt b off items, q.InRange := by
  intro q hq
  simp only [patternAt, Option.mem_def, Option.ite_none_right_eq_some, Option.some.injEq] at hq
  obtain ⟨-, rfl⟩ := hq
  refine ⟨h, fun e he => ?_⟩
  simp only [Option.mem_def, Option.ite_none_right_eq_some, Option.some.injEq] at he
  obtain ⟨-, rfl⟩ := he
  exact ⟨offsetField_le _ _, Ranged.val_mem _ (by decide)⟩

theorem captureOf_inRange (value : dutyBadValue b = false) : ∀ c ∈ captureOf b, c.InRange := by
  intro c hc
  simp only [captureOf, Option.mem_def, Option.ite_none_right_eq_some, Option.some.injEq] at hc
  obtain ⟨present, rfl⟩ := hc
  simp only [dutyBadValue, present, Bool.or_eq_false_iff, Bool.true_and, Bool.and_eq_false_iff, Bool.not_eq_false',
    Bool.or_eq_true, decide_eq_true_eq, decide_eq_false_iff_not, Nat.not_lt] at value
  obtain ⟨-, width, order⟩ := value
  refine ⟨offsetField_le _ _, or_assoc.1 width, fun n lo hi ht => ?_⟩
  dsimp only at ht
  split at ht
  · next interval =>
    simp only [CaptureTarget.interval.injEq] at ht
    obtain ⟨rfl, rfl, rfl⟩ := ht
    obtain ⟨n1, n2⟩ := Ranged.val_mem (readNat b 32 2) (by decide : 1 ≤ 256)
    exact ⟨n1, n2, (delayField_mem b 34 (by decide)).1, order.resolve_left (by simp [interval]),
      (delayField_mem b 38 (by decide)).2⟩
  · exact absurd ht nofun

theorem failureOf_weight (b : List Byte) : ∀ lane w, failureOf b = .wake lane w → w ≤ 65535 := by
  intro lane w h
  unfold failureOf at h
  split at h
  · simp only [FailureAction.wake.injEq] at h
    rw [← h.2]
    exact readNat_word_le b 25
  all_goals exact absurd h nofun

theorem dutyProfileOf_inRange {reply reject : List CompareItem} (hreply : reply.length ≤ 4 ∧ ∀ c ∈ reply, c.InRange)
    (hreject : reject.length ≤ 4 ∧ ∀ c ∈ reject, c.InRange) (value : dutyBadValue b = false) :
    (dutyProfileOf b reply reject).InRange where
  firstDelay := (delayField_mem b 5 (Nat.zero_le _)).2
  interval := delayField_mem b 9 (by decide)
  repeatCount := readNat_word_le b 13
  reply := patternAt_inRange hreply
  reject := patternAt_inRange hreject
  replyWindow := Ranged.val_mem _ (by decide)
  startupTries := Ranged.val_mem _ (by decide)
  runTries := Ranged.val_mem _ (by decide)
  backoffBase := Ranged.val_mem _ (by decide)
  roundsLimit := (Ranged.val_mem _ (by decide : 0 ≤ 7)).2
  weight := failureOf_weight b
  capture := captureOf_inRange value
  needs_reply := by
    simp only [dutyBadValue, Bool.or_eq_false_iff] at value
    obtain ⟨needs, -⟩ := value
    simp only [dutyProfileOf, patternAt, captureOf]
    cases hr : flagAt b 47 <;> cases hj : flagAt b 53 <;> cases hc : flagAt b 27 <;> simp [hr, hj, hc] at needs ⊢

/-- A duty as Put Duty stores it: its profile in range and its run-time state fresh (R104, R105). -/
structure Duty.Fresh (u : Duty) : Prop where
  profile : u.profile.InRange
  run : u.run = u.profile.freshRun

theorem parseDuty_fresh {d : Fin 12} {u : Option Duty} {clamped : Bool} {next : Nat}
    (h : parseDuty seed b = .ok (d, u, clamped, next)) : ∀ x ∈ u, x.Fresh := by
  obtain ⟨-, h⟩ := of_refuseIf_ok h
  obtain ⟨-, h⟩ := of_ite_error_ok h
  rcases of_ite_ok_ok h with unused | h
  · simp only [Prod.mk.injEq] at unused
    intro x hx
    rw [← unused.2.1] at hx
    cases hx
  obtain ⟨-, h⟩ := of_refuseIf_ok h
  obtain ⟨-, h⟩ := of_refuseIf_ok h
  obtain ⟨sizes, h⟩ := of_refuseIf_ok h
  simp only [Bool.or_eq_false_iff, decide_eq_false_iff_not, Nat.not_lt] at sizes
  obtain ⟨⟨-, fewReply⟩, fewReject⟩ := sizes
  cases takenReply : takeItems (patternCount b 47) (b.drop 59) with
  | none =>
    rw [takenReply] at h
    cases h
  | some replyTaken =>
    obtain ⟨replyItems, rest⟩ := replyTaken
    rw [takenReply] at h
    dsimp only at h
    split at h
    case h_2 => cases h
    case h_1 rejectItems takenReject =>
      obtain ⟨value, h⟩ := of_refuseIf_ok h
      simp only [Except.ok.injEq, Prod.mk.injEq] at h
      intro x hx
      rw [← h.2.1, Option.mem_def, Option.some.injEq] at hx
      subst hx
      exact ⟨dutyProfileOf_inRange (storedItems_inRange _ takenReply fewReply)
        (storedItems_inRange _ takenReject fewReject) value, rfl⟩

/-! ### The changes a request makes to the profile -/

/-- What a request that loads the profile does in IDLE, its reply apart: one table or setting replaced by values in range. -/
inductive Loads (s : State) : State → Prop
  | station (t : Station) (inRange : t.InRange) : Loads s { s with station := t }
  | address (i : Fin 16) (entry : Option AddrEntry) (fresh : ∀ e ∈ entry, e.Fresh)
      (single : ∀ e ∈ entry, ∀ j : Fin 16, j ≠ i → ∀ a ∈ s.entries[j], a.value ≠ e.value) :
      Loads s { s with entries := s.entries.set i entry }
  | group (i : Fin 8) (g : GroupEntry) (inRange : 1 ≤ g.matchLen ∧ g.matchLen ≤ 6) :
      Loads s { s with groups := s.groups.set i g }
  | rule (i : Fin 32) (r : Rule) (next : Nat) (inRange : r.InRange) :
      Loads s { s with rules := s.rules.set i r, matchCounts := s.matchCounts.set i 0, freeCount := next }
  | template (id : Fin 48) (bytes : List Byte) (fresh : ∀ t ∈ s.pool, t.1 ≠ id)
      (size : 14 ≤ bytes.length ∧ bytes.length ≤ 1514) (room : bytes.length ≤ freePoolBytes s) :
      Loads s { s with pool := s.pool ++ [(id, bytes)] }
  | patchList (i : Fin 32) (list : Option (List Patch)) (inRange : ∀ ps ∈ list, ps.length ≤ 8 ∧ ∀ q ∈ ps, q.InRange) :
      Loads s { s with patchLists := s.patchLists.set i list }
  | duty (d : Fin 12) (u : Option Duty) (next : Nat) (fresh : ∀ x ∈ u, x.Fresh) :
      Loads s { s with duties := s.duties.set d { s.duties[d] with duty := u }, freeCount := next }
  | lanes (v : Vector LaneSetting 8) (inRange : ∀ j : Fin 8, (v[j]).InRange) : Loads s { s with laneSettings := v }
  | curve (c : Curve) (inRange : c.InRange) : Loads s { s with curve := c, budget := c.points[0] }
  | signature (g : Option Signature) (inRange : ∀ x ∈ g, x.weight ≤ 65535) :
      Loads s { s with signature := g, duties := setProbeFlags g s.duties }

theorem not_duplicateValue {i : Fin 16} {v : NetAddr} (h : duplicateValue s i v = false) :
    ∀ j : Fin 16, j ≠ i → ∀ a ∈ s.entries[j], a.value ≠ v := by
  intro j hj a ha hv
  rw [duplicateValue, List.any_eq_false] at h
  refine h j (List.mem_finRange j) ?_
  rw [Option.mem_def] at ha
  simp [hj, ha, hv]

end Sys2Proof.Machine
end

section
/-! SUPPORT. What a command can do, said once for all commands: the events of the port and the timers as series of primitive
updates, and the cases of `exec` with the guards under which each acts. -/

namespace Sys2Proof.Machine

variable {s t u : State} {frame f : Frame} {c : DestClass}

/-! ### A received frame's path -/

/-- A normalised frame has 14 to 1,522 bytes (R23, R24). -/
theorem normalise_length {vlan : Option (BitVec 12)} (h : normalise frame = some (f, vlan)) :
    14 ≤ f.length ∧ f.length ≤ 1522 := by
  unfold normalise at h
  split at h
  · cases h
  · next size =>
    split at h
    · split at h
      · cases h
      · next long =>
        simp only [Option.some.injEq, Prod.mk.injEq] at h
        rw [← h.1]
        simp only [List.length_append, List.length_take, List.length_drop]
        omega
    · simp only [Option.some.injEq, Prod.mk.injEq] at h
      rw [← h.1]
      omega

theorem count_stage_works (f : Stats → Stats) (s : State) (h : ∀ c : Stats, c.Raises (f c)) : Works s (s.count f) :=
  (Touch.stats f s (h _)).works

theorem countReceived_works (s : State) : Works s (countReceived s) :=
  count_stage_works _ s (Stats.raises_of_received _ (.inl rfl))

/-- A frame counted as received, then at one stage: the counts can be told at once. -/
theorem countReceived_stage_works (g : Stats → Stats) (s : State)
    (h : ∀ x : Stats, x.Raises (g { x with received := satAdd32 x.received 1 })) : Works s ((countReceived s).count g) :=
  count_stage_works (fun x => g { x with received := satAdd32 x.received 1 }) s h

/-- A frame counted as received and as load, then at one stage: the counts can be told at once. -/
theorem countLoad_stage_works (c : DestClass) (s : State) (g : Stats → Stats)
    (h : ∀ x : Stats, x.Raises (g { x with received := satAdd32 x.received 1 })) :
    Works s ((countLoad c (countReceived s)).count g) := by
  have commute : (countLoad c (countReceived s)).count g =
      countLoad c (s.count fun x => g { x with received := satAdd32 x.received 1 }) := by
    cases c <;> rfl
  rw [commute]
  exact (count_stage_works _ s h).trans (countLoad_works c _)

theorem classifyActive_works (c : DestClass) (size : 14 ≤ f.length ∧ f.length ≤ 1522) (s : State) :
    Works s (classifyActive c f (countReceived s)) := by
  have loaded : Works s (countLoad c (countReceived s)) := (countReceived_works s).trans (countLoad_works c _)
  unfold classifyActive
  dsimp only
  split
  · exact loaded.trans (consumeFrame_works _ f)
  · split
    · exact countLoad_stage_works c s _ (Stats.raises_of_received _ (by simp))
    · split
      · exact countLoad_stage_works c s _ (Stats.raises_of_received _ (by simp))
      · exact loaded.trans (dispatch_works _ _ _ size)

theorem classifyHandback_works (c : DestClass) (size : 14 ≤ f.length ∧ f.length ≤ 1522) (s : State) :
    Works s (classifyHandback c f (countReceived s)) := by
  unfold classifyHandback
  split
  · exact countReceived_stage_works _ s (Stats.raises_of_received _ (by simp))
  · exact (countReceived_works s).trans (dispatchHandback_works _ _ size)

theorem classify_works (frame : Frame) (s : State) : Works s (classify frame s) := by
  unfold classify
  dsimp only
  split
  · exact countReceived_stage_works _ s (Stats.raises_of_received _ (by simp))
  · next f vlan hn =>
    have size := normalise_length hn
    split
    · exact countReceived_stage_works _ s (Stats.raises_of_received _ (by simp))
    · split
      · exact countReceived_stage_works _ s (Stats.raises_of_received _ (by simp))
      · split
        · exact classifyHandback_works _ size s
        · exact classifyActive_works _ size s

/-! ### The work in HANDBACK -/

/-- In HANDBACK a frame changes the counts and the Held Frame Queue alone (R12). -/
theorem classify_of_handback (hp : s.proxy = .handback) (frame : Frame) :
    classify frame s = { s with
      stats := (classify frame s).stats, matchCounts := (classify frame s).matchCounts, held := (classify frame s).held } := by
  unfold classify
  dsimp only
  split
  · rfl
  · split
    · rfl
    · split
      · rfl
      · rw [if_pos (by simp [hp])]
        unfold classifyHandback
        split
        · rfl
        · unfold dispatchHandback actHold
          split
          · split <;> rfl
          · rfl

/-- In HANDBACK a transmit result is counted for an answer, and nothing else happens (R13, R134). -/
theorem handResult_of_handback (hp : s.proxy = .handback) (o : Origin) (r : TxResult) :
    handResult o r s = { s with stats := (handResult o r s).stats } := by
  unfold handResult
  split
  · cases r <;> rfl
  · rw [if_neg (by simp [State.active, hp])]

/-! ### The events that end with the queue served -/

/-- The part may send: PROXY, WAKING or HANDBACK (R86). -/
def State.busy (s : State) : Prop := s.active = true ∨ s.proxy = .handback

/-- What an event of the port, the queue or a duty's timer does before the queue is served. -/
inductive Serves (s : State) : Instr → State → Prop
  | send (c : Instr) : Serves s c s
  | receive (frame : Frame) : Serves s (.receivedFrame frame) (classify frame s)
  | offer (active : s.active = true) : Serves s .blockedDutyAdmit (offerPlace s)
  | resume (active : s.active = true) : Serves s .deferredResume (resumeDeferred s)
  | dutyTimer (d : Fin 12) (active : s.active = true) : Serves s (.dutyTimerExpiry d) (expireDutyTimer d s)
  | replyWindow (d : Fin 12) (active : s.active = true) : Serves s (.replyWindowExpiry d) (expireReplyWindow d s)
  | backoff (d : Fin 12) (active : s.active = true) : Serves s (.backoffExpiry d) (expireBackoff d s)
  | result (r : TxResult) (e : TxEntry) (rest : List TxEntry) (active : s.active = true)
      (flight : takeInFlight s.queue = some (e, rest)) :
      Serves s (.transmitResult r) (arbiter (handResult e.origin r { s with queue := rest }))

/-- Such an event is a series of primitive updates; a transmit result takes the entry in flight out first. -/
theorem Serves.works {i : Instr} (h : Serves s i u) :
    ∃ q, (q = s.queue ∨ ∃ r, i = .transmitResult r) ∧ Works { s with queue := q } u := by
  cases h with
  | send => exact ⟨s.queue, .inl rfl, .refl s⟩
  | receive frame => exact ⟨s.queue, .inl rfl, classify_works frame s⟩
  | offer => exact ⟨s.queue, .inl rfl, offerPlace_works s⟩
  | resume => exact ⟨s.queue, .inl rfl, resumeDeferred_works s⟩
  | dutyTimer d => exact ⟨s.queue, .inl rfl, expireDutyTimer_works d s⟩
  | replyWindow d => exact ⟨s.queue, .inl rfl, expireReplyWindow_works d⟩
  | backoff d => exact ⟨s.queue, .inl rfl, expireBackoff_works d s⟩
  | result r e rest => exact ⟨rest, .inr ⟨r, rfl⟩, (handResult_works e.origin r).trans (arbiter_works _)⟩

/-- In HANDBACK an event that serves the queue changes the counts and the Held Frame Queue alone. -/
theorem Serves.of_handback {i : Instr} (h : Serves s i u) (hp : s.proxy = .handback) :
    u = { s with stats := u.stats, matchCounts := u.matchCounts, held := u.held } := by
  have still : s.active = false := by simp [State.active, hp]
  cases h with
  | send => rfl
  | receive frame => exact classify_of_handback hp frame
  | offer active => simp [still] at active
  | resume active => simp [still] at active
  | dutyTimer d active => simp [still] at active
  | replyWindow d active => simp [still] at active
  | backoff d active => simp [still] at active
  | result r e rest active => simp [still] at active

/-! ### The cases of a command -/

/-- What a command does to the part, the Control Link's reply slot, notices and log apart. -/
inductive Acts (s : State) : Instr → State → Prop
  | still (c : Instr) : Acts s c s
  | reset (c : Instr) (resets : resetsPart c = true) : Acts s c (resetPart s)
  | load (c : Instr) (t : State) (idle : s.proxy = .idle) (loads : Loads s t) : Acts s c t
  | clear (m : Request) (idle : s.proxy = .idle) : Acts s (.clearProfile m) (clearAll s)
  | assume (m : Request) (idle : s.proxy = .idle) (ok : profileCheck s = none) : Acts s (.assume m) (startProxy s)
  | reclaim (m : Request) (active : s.active = true) : Acts s (.reclaim m) (takePortBack s)
  | rearm (m : Request) (report : s.proxy = .report) : Acts s (.rearm m) (rearmAll s)
  | detach (m : Request) (report : s.proxy = .report) : Acts s (.detach m) (clearAll s)
  | fetch (m : Request) (h : HeldFrame) (rest : List HeldFrame) (report : s.proxy = .report) (held : s.held = h :: rest) :
      Acts s (.fetchHeld m) { s with held := rest }
  | complete : Acts s .handbackComplete (handbackIfClear s)
  | elapse (active : s.active = true) : Acts s .elapsedTimeAdvance (tickTimers { s with elapsed := satAdd32 s.elapsed 1 })
  | age (handback : s.proxy = .handback) : Acts s .elapsedTimeAdvance { s with elapsed := satAdd32 s.elapsed 1 }
  | serve (c : Instr) (u : State) (busy : s.busy) (serves : Serves s c u) : Acts s c (startTransmit u)
  | lastResult (r : TxResult) (e : TxEntry) (rest : List TxEntry) (handback : s.proxy = .handback)
      (flight : takeInFlight s.queue = some (e, rest)) :
      Acts s (.transmitResult r) (handbackIfClear (handResult e.origin r { s with queue := rest }))
  | link (l : LinkRecord) (passive : s.active = false) : Acts s (.linkState l) { s with linkState := linkOfRecord l }
  | linkUp (active : s.active = true) (change : s.linkState ≠ .up) :
      Acts s (.linkState .up) (startTransmit (linkUp { s with linkState := .up }))
  | linkDown (active : s.active = true) (change : s.linkState ≠ .down) :
      Acts s (.linkState .down) (startTransmit (linkDown { s with linkState := .down }))
  | tentative (i : Fin 16) (active : s.active = true) : Acts s (.tentativeExpiry i) (updEntry i AddrEntry.expireTentative s)
  | contest (i : Fin 16) (active : s.active = true) : Acts s (.contestExpiry i) (updEntry i AddrEntry.expireContest s)
  | window (active : s.active = true) : Acts s .loadWindowExpiry (endWindow s)
  | decay (active : s.active = true) :
      Acts s .decayPeriodExpiry { decayLanes s with decayTimer := some (s.station.decayPeriod * 1000) }
  | settle (active : s.active = true) : Acts s .settleHoldExpiry (evaluateAll { s with settleTimer := none })
  | patience (waking : s.proxy = .waking) (runs : s.patienceTimer.isSome = true) :
      Acts s .patienceExpiry (if s.resignals < 3 then
        { s with wake := false, patienceTimer := none, gapTimer := some Config.gapMs } else { s with patienceTimer := none })
  | gap (waking : s.proxy = .waking) (runs : s.gapTimer.isSome = true) :
      Acts s .gapExpiry { s with
        wake := true, gapTimer := none, resignals := s.resignals + 1
        patienceTimer := if s.resignals + 1 < 3 then some (s.station.wakePatience * 1000) else none }

/-- `t` differs from `s` at most in the reply slot, the notices and the log of what the Control Link shifted out. -/
def OnlyLink (s t : State) : Prop :=
  t = { s with reply := t.reply, readyPending := t.readyPending, handbackDonePending := t.handbackDonePending, linkOut := t.linkOut }

/-- What a request's own rule does in a state that accepts it. -/
def Performs (c : Instr) (k : RequestKind) (m : Request) : Prop :=
  ∀ s, k.accepts s.proxy = true →
    (∀ t clamped body, k.perform m.body s = .performed t clamped body → Acts s c t) ∧
    (∀ t, k.perform m.body s = .silent t → Acts s c t)

theorem takeRequest_acts {c : Instr} {k : RequestKind} {m : Request} (h : Performs c k m) (s : State) :
    ∃ u, Acts s c u ∧ OnlyLink u (takeRequest k m s) := by
  rcases takeRequest_effect k m s with ⟨r, e⟩ | ⟨t, clamped, body, r, accepted, -, performed, e, -⟩ | ⟨t, accepted, -, silent, e⟩
  · exact ⟨s, .still c, by rw [e]; rfl⟩
  · exact ⟨t, (h s accepted).1 t clamped body performed, by rw [e]; rfl⟩
  · exact ⟨t, (h s accepted).2 t silent, by rw [e]; rfl⟩

/-- A request whose rule only reads the state. -/
theorem performs_of_still {c : Instr} {k : RequestKind} {m : Request}
    (h : ∀ s t clamped body, k.perform m.body s = .performed t clamped body → t = s)
    (loud : ∀ s t, k.perform m.body s ≠ .silent t) : Performs c k m := fun s _ =>
  ⟨fun t clamped body e => by rw [h s t clamped body e]; exact .still c, fun t e => absurd e (loud s t)⟩

theorem idle_of_inIdle {p : ProxyState} (h : inIdle p = true) : p = .idle := by simpa [inIdle] using h

theorem report_of_inReport {p : ProxyState} (h : inReport p = true) : p = .report := by simpa [inReport] using h

/-- A request that loads the profile, by what its rule performs. -/
theorem performs_of_loads {c : Instr} {k : RequestKind} {m : Request} (idle : k.accepts = inIdle)
    (h : ∀ s t clamped body, k.perform m.body s = .performed t clamped body → Loads s t)
    (loud : ∀ s t, k.perform m.body s ≠ .silent t) : Performs c k m := fun s accepted =>
  ⟨fun t clamped body e => .load c t (idle_of_inIdle (by rw [← idle]; exact accepted)) (h s t clamped body e),
    fun t e => absurd e (loud s t)⟩

theorem verdictOf_performed {α : Type} {r : Except Status α} {b body : List Byte} {f : α → Verdict} {clamped : Bool}
    (h : verdictOf r b f = .performed t clamped body) : ∃ a, r = .ok a ∧ f a = .performed t clamped body := by
  cases r with
  | error st => cases h
  | ok a => exact ⟨a, rfl, h⟩

theorem verdictOf_loud {α : Type} {r : Except Status α} {b : List Byte} {f : α → Verdict} (h : ∀ a, f a ≠ .silent t) :
    verdictOf r b f ≠ .silent t := by
  cases r with
  | error st => exact nofun
  | ok a => exact h a

end Sys2Proof.Machine
end

section
/-! SUPPORT. Every command is one of the cases of `Acts`, up to the Control Link's slot, notices and log. -/

namespace Sys2Proof.Machine

variable {s t u : State}

/-! ### The requests that load the profile -/

theorem performed_ne_silent (clamped : Bool) (body : List Byte) : Verdict.performed s clamped body ≠ .silent t := by
  intro h
  cases h

theorem refused_ne_silent (st : Status) (body : List Byte) : Verdict.refused st body ≠ .silent t := by
  intro h
  cases h

theorem refused_ne_performed (st : Status) (rest body : List Byte) (clamped : Bool) :
    Verdict.refused st rest ≠ .performed t clamped body := by
  intro h
  cases h

theorem loads_of_parseAddress {b body rest : List Byte} {clamped : Bool}
    (h : verdictOf (parseAddress b) rest (fun (i, entry, cl) =>
      if entry.any fun e => duplicateValue s i e.value then .refused .duplicate []
      else .performed { s with entries := s.entries.set i entry } cl []) = .performed t clamped body) : Loads s t := by
  obtain ⟨⟨i, entry, cl⟩, parsed, h⟩ := verdictOf_performed h
  dsimp only at h
  split at h
  · cases h
  · next single =>
    cases h
    refine .address i entry (parseAddress_fresh parsed) fun e he => ?_
    rw [Option.mem_def] at he
    exact not_duplicateValue (by simpa [he] using single)

theorem loads_of_parseTemplate {b body rest : List Byte} {clamped : Bool}
    (h : verdictOf (parseTemplate b) rest (fun (id, bytes) =>
      if (template? s id).isSome then .refused .duplicate (freeBytesBody s)
      else if freePoolBytes s < bytes.length then .refused .noSpace (freeBytesBody s)
      else .performed { s with pool := s.pool ++ [(id, bytes)] } false
        (freeBytesBody { s with pool := s.pool ++ [(id, bytes)] })) = .performed t clamped body) : Loads s t := by
  obtain ⟨⟨id, bytes⟩, parsed, h⟩ := verdictOf_performed h
  dsimp only at h
  split at h
  · cases h
  · next fresh =>
    split at h
    · cases h
    · next room =>
      cases h
      rw [template?_isSome_iff] at fresh
      exact .template id bytes (fun x hx same => fresh ⟨x, hx, same⟩) (parseTemplate_inRange parsed) (Nat.le_of_not_lt room)

/-! ### The commands one by one -/

/-- An event, by the state its arm of `exec` gives. -/
theorem acts_of_eq {c : Instr} {r : Host.Outcome State Fault Refusal} (h : r = .next t) (e : r = .next u) (acts : Acts s c u) :
    Acts s c t := by
  rw [e, Host.Outcome.next.injEq] at h
  rwa [← h]

/-- A request, by what its rule performs. -/
theorem acts_of_performs {c : Instr} {k : RequestKind} {m : Request} (h : Performs c k m)
    (e : Host.Outcome.next (takeRequest k m s) = (.next t : Host.Outcome State Fault Refusal)) :
    ∃ u, Acts s c u ∧ OnlyLink u t := by
  rw [Host.Outcome.next.injEq] at e
  rw [← e]
  exact takeRequest_acts h s

theorem eq_of_performed {clamped cl : Bool} {body b : List Byte} (h : Verdict.performed s clamped body = .performed t cl b) :
    s = t := by
  rw [Verdict.performed.injEq] at h
  exact h.1

/-- A request of the lifecycle, by its effect. -/
theorem performs_of_effect {c : Instr} {k : RequestKind} {m : Request} (op : State → State)
    (does : ∀ s t clamped body, k.perform m.body s = .performed t clamped body → op s = t)
    (loud : ∀ s t, k.perform m.body s ≠ .silent t) (acts : ∀ s, k.accepts s.proxy = true → Acts s c (op s)) :
    Performs c k m := fun s accepted =>
  ⟨fun t cl body e => by rw [← does s t cl body e]; exact acts s accepted, fun t e => absurd e (loud s t)⟩

theorem exec_clearProfile_acts {m : Request} (h : exec (.clearProfile m) s = .next t) :
    ∃ u, Acts s (.clearProfile m) u ∧ OnlyLink u t :=
  acts_of_performs (performs_of_effect clearAll (fun _ _ _ _ e => eq_of_performed e) (fun _ _ => performed_ne_silent _ _)
    fun _ idle => .clear m (idle_of_inIdle idle)) h

theorem exec_reclaim_acts {m : Request} (h : exec (.reclaim m) s = .next t) : ∃ u, Acts s (.reclaim m) u ∧ OnlyLink u t :=
  acts_of_performs (performs_of_effect takePortBack (fun _ _ _ _ e => eq_of_performed e) (fun _ _ => performed_ne_silent _ _)
    fun _ active => .reclaim m active) h

theorem exec_rearm_acts {m : Request} (h : exec (.rearm m) s = .next t) : ∃ u, Acts s (.rearm m) u ∧ OnlyLink u t :=
  acts_of_performs (performs_of_effect rearmAll (fun _ _ _ _ e => eq_of_performed e) (fun _ _ => performed_ne_silent _ _)
    fun _ report => .rearm m (report_of_inReport report)) h

theorem exec_detach_acts {m : Request} (h : exec (.detach m) s = .next t) : ∃ u, Acts s (.detach m) u ∧ OnlyLink u t :=
  acts_of_performs (performs_of_effect clearAll (fun _ _ _ _ e => eq_of_performed e) (fun _ _ => performed_ne_silent _ _)
    fun _ report => .detach m (report_of_inReport report)) h

/-- What an Assume's examination comes to past its state and size (R5, R7). -/
def judgeAssume (s : State) : Verdict :=
  match profileCheck s with
  | some (table, index) => .refused .reference [table.code, BitVec.ofNat 8 index]
  | none => .performed (startProxy s) false [(netAtAssume s.linkState).code]

theorem judgeAssume_of_ok (h : profileCheck s = none) :
    judgeAssume s = .performed (startProxy s) false [(netAtAssume s.linkState).code] := by
  unfold judgeAssume
  rw [h]

theorem judgeAssume_of_offence {table : CheckTable} {index : Nat} (h : profileCheck s = some (table, index)) :
    judgeAssume s = .refused .reference [table.code, BitVec.ofNat 8 index] := by
  unfold judgeAssume
  rw [h]

/-- The Assume request as a kind of request. -/
def assumeKind : RequestKind where
  kind := 0x0C
  accepts := inIdle
  size := some 0
  refusalBody := noBody
  perform := fun _ s => judgeAssume s

theorem exec_assume (m : Request) (s : State) : exec (.assume m) s = .next (takeRequest assumeKind m s) := rfl

theorem assume_performs (m : Request) : Performs (.assume m) assumeKind m := by
  intro s idle
  have atRest := idle_of_inIdle idle
  cases check : profileCheck s with
  | none =>
    have judged := judgeAssume_of_ok check
    refine ⟨fun t cl body e => ?_, fun t e => absurd (judged.symm.trans e) (performed_ne_silent _ _)⟩
    rw [← eq_of_performed (judged.symm.trans e)]
    exact .assume m atRest check
  | some offence =>
    have judged := judgeAssume_of_offence check
    exact ⟨fun t cl body e => absurd (judged.symm.trans e) (refused_ne_performed _ _ _ _),
      fun t e => absurd (judged.symm.trans e) (refused_ne_silent _ _)⟩

theorem exec_assume_acts {m : Request} (h : exec (.assume m) s = .next t) : ∃ u, Acts s (.assume m) u ∧ OnlyLink u t :=
  acts_of_performs (assume_performs m) (by rw [← exec_assume]; exact h)

/-- The Fetch Held request as a kind of request. -/
def fetchKind : RequestKind where
  kind := 0x0F
  accepts := inReport
  size := some 0
  refusalBody := noBody
  perform := fun _ s => judgeHeld s

theorem exec_fetchHeld (m : Request) (s : State) : exec (.fetchHeld m) s = .next (takeRequest fetchKind m s) := rfl

theorem fetch_performs (m : Request) : Performs (.fetchHeld m) fetchKind m := by
  intro s report
  cases held : s.held with
  | nil =>
    have judged := judgeHeld_of_nil held
    exact ⟨fun t cl body e => absurd (judged.symm.trans e) (refused_ne_performed _ _ _ _),
      fun t e => absurd (judged.symm.trans e) (refused_ne_silent _ _)⟩
  | cons x rest =>
    have judged := judgeHeld_of_cons held
    refine ⟨fun t cl body e => ?_, fun t e => absurd (judged.symm.trans e) (performed_ne_silent _ _)⟩
    rw [← eq_of_performed (judged.symm.trans e)]
    exact .fetch m x rest (report_of_inReport report) held

theorem exec_fetchHeld_acts {m : Request} (h : exec (.fetchHeld m) s = .next t) :
    ∃ u, Acts s (.fetchHeld m) u ∧ OnlyLink u t :=
  acts_of_performs (fetch_performs m) (by rw [← exec_fetchHeld]; exact h)

/-- A READ touches the Control Link alone. -/
theorem exec_read_acts {n : Nat} (h : exec (.read n) s = .next t) : ∃ u, Acts s (.read n) u ∧ OnlyLink u t := by
  rw [exec_read, Host.Outcome.next.injEq] at h
  exact ⟨s, .still _, by rw [← h]; exact readMessage_only n s⟩

/-- An event of a timer or the queue that acts in PROXY and WAKING alone and then serves the queue. -/
theorem serves_if_active {c : Instr} {op : State → State} (active : s.active = true → Serves s c (op s))
    (passive : s.active = false → op s = s) : Serves s c (op s) := by
  cases ha : s.active with
  | true => exact active ha
  | false => rw [passive ha]; exact .send c

/-- Serving the queue acts in the states that send alone. -/
theorem acts_of_serves {c : Instr} (h : Serves s c u) (quiet : ¬s.busy → u = s) : Acts s c (startTransmit u) := by
  by_cases busy : s.busy
  · exact .serve c u busy h
  · rw [quiet busy, startTransmit_of_still s (by simpa using fun ha => busy (.inl ha)) (fun hp => busy (.inr hp))]
    exact .still c

theorem passive_of_not_busy (h : ¬s.busy) : s.active = false := by simpa using fun ha => h (.inl ha)

theorem expireDutyTimer_of_passive (d : Fin 12) (h : s.active = false) : expireDutyTimer d s = s := by
  unfold expireDutyTimer
  split
  · rfl
  · exact if_neg (by simp [h])

theorem expireReplyWindow_of_passive (d : Fin 12) (h : s.active = false) : expireReplyWindow d s = s := by
  unfold expireReplyWindow
  split
  · rfl
  · exact if_neg (by simp [h])

theorem expireBackoff_of_passive (d : Fin 12) (h : s.active = false) : expireBackoff d s = s := by
  unfold expireBackoff
  split
  · rfl
  · exact if_neg (by simp [h])

/-- A timer of a duty expires: its effect and the queue served. -/
theorem acts_of_duty_timer {c : Instr} {op : State → State} (active : s.active = true → Serves s c (op s))
    (passive : s.active = false → op s = s) : Acts s c (startTransmit (op s)) :=
  acts_of_serves (serves_if_active active passive) fun quiet => passive (passive_of_not_busy quiet)

theorem receiveFrame_acts (frame : Frame) (s : State) : Acts s (.receivedFrame frame) (receiveFrame frame s) := by
  unfold receiveFrame
  split
  · next h => exact .serve _ _ (by simpa [State.busy] using h) (.receive frame)
  · exact .still _

theorem completeTransmit_acts (r : TxResult) (s : State) : Acts s (.transmitResult r) (completeTransmit r s) := by
  rcases completeTransmit_cases r s with e | ⟨x, rest, flight, ⟨active, e⟩ | ⟨handback, e⟩⟩ <;> rw [e]
  · exact .still _
  · exact .serve _ _ (.inl active) (.result r x rest active flight)
  · exact .lastResult r x rest handback flight

theorem takeLinkState_acts (l : LinkRecord) (s : State) : Acts s (.linkState l) (takeLinkState l s) := by
  unfold takeLinkState
  split
  · exact .still _
  · next change =>
    dsimp only
    split
    · next active =>
      cases l with
      | up => exact .linkUp active change
      | down => exact .linkDown active change
    · next passive => exact .link l (by simpa using passive)

theorem patience_acts (s : State) : ∃ u, execPatienceExpiry s = .next u ∧ Acts s .patienceExpiry u := by
  unfold execPatienceExpiry
  split
  · next h =>
    simp only [Bool.and_eq_true, beq_iff_eq] at h
    exact ⟨_, rfl, .patience h.1 h.2⟩
  · exact ⟨_, rfl, .still _⟩

theorem gap_acts (s : State) : ∃ u, execGapExpiry s = .next u ∧ Acts s .gapExpiry u := by
  unfold execGapExpiry
  split
  · next h =>
    simp only [Bool.and_eq_true, beq_iff_eq] at h
    exact ⟨_, rfl, .gap h.1 h.2⟩
  · exact ⟨_, rfl, .still _⟩

/-- An event that acts under a guard which PROXY or WAKING is part of. -/
theorem acts_if {c : Instr} {p : Bool} {x : State} (h : s.active = true → Acts s c x) :
    Acts s c (if s.active && p then x else s) := by
  split
  · next g =>
    rw [Bool.and_eq_true] at g
    exact h g.1
  · exact .still c

/-- The commands that are neither a request nor a READ. -/
def isEvent : Instr → Bool
  | .unknownKindRequest _ _ | .read _ | .setStation _ | .putAddress _ | .putGroup _ | .putRule _ | .putTemplate _
  | .putPatchList _ | .putDuty _ | .setLanes _ | .setCurve _ | .setSignature _ | .clearProfile _ | .assume _
  | .reclaim _ | .readReport _ | .fetchHeld _ | .rearm _ | .detach _ | .queryStatus _ | .resetPart _ => false
  | _ => true

/-- Every event is one of the cases of `Acts`. -/
theorem exec_event_acts {c : Instr} (event : isEvent c = true) (h : exec c s = .next t) : Acts s c t := by
  cases c with
  | powerOn => exact acts_of_eq h rfl (.reset _ rfl)
  | resetPin => exact acts_of_eq h rfl (.reset _ rfl)
  | otherTransaction bytes => exact acts_of_eq h rfl (.still _)
  | cutShortMessage bytes => exact acts_of_eq h rfl (.still _)
  | receivedFrame frame => exact acts_of_eq h rfl (receiveFrame_acts frame s)
  | transmitResult r => exact acts_of_eq h rfl (completeTransmit_acts r s)
  | blockedDutyAdmit =>
    refine acts_of_eq h rfl ?_
    split
    · next active => exact .serve _ _ (.inl active) (.offer active)
    · exact .still _
  | frameToSend => exact acts_of_eq h rfl (acts_of_serves (.send _) fun _ => rfl)
  | handbackComplete => exact acts_of_eq h rfl .complete
  | linkState l => exact acts_of_eq h rfl (takeLinkState_acts l s)
  | badRecord bytes => exact acts_of_eq h rfl (.still _)
  | deferredResume =>
    refine acts_of_eq h rfl ?_
    split
    · next active => exact .serve _ _ (.inl active) (.resume active)
    · exact .still _
  | tentativeExpiry i => exact acts_of_eq h rfl (acts_if (.tentative i))
  | contestExpiry i => exact acts_of_eq h rfl (acts_if (.contest i))
  | dutyTimerExpiry d =>
    exact acts_of_eq h rfl (acts_of_duty_timer (op := expireDutyTimer d) (.dutyTimer d) (expireDutyTimer_of_passive d))
  | replyWindowExpiry d =>
    exact acts_of_eq h rfl (acts_of_duty_timer (op := expireReplyWindow d) (.replyWindow d) (expireReplyWindow_of_passive d))
  | backoffExpiry d =>
    exact acts_of_eq h rfl (acts_of_duty_timer (op := expireBackoff d) (.backoff d) (expireBackoff_of_passive d))
  | loadWindowExpiry => exact acts_of_eq h rfl (acts_if .window)
  | decayPeriodExpiry => exact acts_of_eq h rfl (acts_if .decay)
  | settleHoldExpiry => exact acts_of_eq h rfl (acts_if .settle)
  | patienceExpiry =>
    obtain ⟨u, e, acts⟩ := patience_acts s
    exact acts_of_eq h e acts
  | gapExpiry =>
    obtain ⟨u, e, acts⟩ := gap_acts s
    exact acts_of_eq h e acts
  | elapsedTimeAdvance =>
    refine acts_of_eq h rfl ?_
    split
    · next active => exact .elapse active
    · split
      · next handback => exact .age (by simpa using handback)
      · exact .still _
  | _ => cases event

/-- Every command is one of the cases of `Acts`, the Control Link's slot, notices and log apart. -/
theorem exec_acts {c : Instr} (h : exec c s = .next t) : ∃ u, Acts s c u ∧ OnlyLink u t := by
  cases c with
  | unknownKindRequest kind m => exact acts_of_performs (performs_of_still (fun _ _ _ _ e => absurd e (refused_ne_performed _ _ _ _))
      fun _ _ => refused_ne_silent _ _) h
  | read n => exact exec_read_acts h
  | setStation m =>
    refine acts_of_performs (performs_of_loads rfl (fun s t cl body e => ?_) fun _ _ => performed_ne_silent _ _) h
    cases e
    exact .station _ (parseStation_inRange _)
  | putAddress m =>
    exact acts_of_performs (performs_of_loads rfl (fun s t cl body e => loads_of_parseAddress e) fun s t =>
      verdictOf_loud fun a => by
        dsimp only
        split
        · exact refused_ne_silent _ _
        · exact performed_ne_silent _ _) h
  | putGroup m =>
    refine acts_of_performs (performs_of_loads rfl (fun s t cl body e => ?_) fun s t =>
      verdictOf_loud fun _ => performed_ne_silent _ _) h
    obtain ⟨⟨i, g, cl'⟩, parsed, e⟩ := verdictOf_performed e
    cases e
    exact .group i g (parseGroup_inRange parsed)
  | putRule m =>
    refine acts_of_performs (performs_of_loads rfl (fun s t cl body e => ?_) fun s t =>
      verdictOf_loud fun _ => performed_ne_silent _ _) h
    obtain ⟨⟨i, r, cl', next⟩, parsed, e⟩ := verdictOf_performed e
    cases e
    exact .rule i r next (parseRule_inRange parsed)
  | putTemplate m =>
    exact acts_of_performs (performs_of_loads rfl (fun s t cl body e => loads_of_parseTemplate e) fun s t =>
      verdictOf_loud fun a => by
        dsimp only
        split
        · exact refused_ne_silent _ _
        · split
          · exact refused_ne_silent _ _
          · exact performed_ne_silent _ _) h
  | putPatchList m =>
    refine acts_of_performs (performs_of_loads rfl (fun s t cl body e => ?_) fun s t =>
      verdictOf_loud fun _ => performed_ne_silent _ _) h
    obtain ⟨⟨i, list, cl'⟩, parsed, e⟩ := verdictOf_performed e
    cases e
    exact .patchList i list (parsePatchList_inRange parsed)
  | putDuty m =>
    refine acts_of_performs (performs_of_loads rfl (fun s t cl body e => ?_) fun s t =>
      verdictOf_loud fun _ => performed_ne_silent _ _) h
    obtain ⟨⟨d, x, cl', next⟩, parsed, e⟩ := verdictOf_performed e
    cases e
    exact .duty d x next (parseDuty_fresh parsed)
  | setLanes m =>
    refine acts_of_performs (performs_of_loads rfl (fun s t cl body e => ?_) fun s t =>
      verdictOf_loud fun _ => performed_ne_silent _ _) h
    obtain ⟨⟨v, cl'⟩, parsed, e⟩ := verdictOf_performed e
    cases e
    exact .lanes v (parseLanes_inRange parsed)
  | setCurve m =>
    refine acts_of_performs (performs_of_loads rfl (fun s t cl body e => ?_) fun _ _ => performed_ne_silent _ _) h
    cases e
    exact .curve _ (parseCurve_inRange _)
  | setSignature m =>
    refine acts_of_performs (performs_of_loads rfl (fun s t cl body e => ?_) fun s t =>
      verdictOf_loud fun _ => performed_ne_silent _ _) h
    obtain ⟨⟨g, cl'⟩, parsed, e⟩ := verdictOf_performed e
    cases e
    exact .signature g (parseSignature_inRange parsed)
  | clearProfile m => exact exec_clearProfile_acts h
  | assume m => exact exec_assume_acts h
  | reclaim m => exact exec_reclaim_acts h
  | readReport m =>
    refine acts_of_performs (performs_of_still (fun s t cl body e => ?_) fun _ _ => performed_ne_silent _ _) h
    cases e
    rfl
  | fetchHeld m => exact exec_fetchHeld_acts h
  | rearm m => exact exec_rearm_acts h
  | detach m => exact exec_detach_acts h
  | queryStatus m =>
    refine acts_of_performs (performs_of_still (fun s t cl body e => ?_) fun _ _ => performed_ne_silent _ _) h
    cases e
    rfl
  | resetPart m =>
    refine acts_of_performs (fun s _ => ⟨fun _ _ _ e => (by cases e), fun t e => ?_⟩) h
    cases e
    exact .reset _ rfl
  | _ => exact ⟨t, exec_event_acts rfl h, rfl⟩

end Sys2Proof.Machine
end

section
/-! SUPPORT. The operations that are no series of primitive updates alone, taken apart: an evaluation of the lanes, an Assume,
a link change, the end of a load window. -/

namespace Sys2Proof.Machine

variable {s t u : State}

/-! ### Evaluations -/

/-- The first reason stands exactly while the set is not empty; it is a member, and its time is not later than now (R170). -/
structure FirstSound (s : State) : Prop where
  first : s.firstReason.isSome = true ↔ s.reasons ≠ 0
  member : ∀ f ∈ s.firstReason, s.reasons.getLsbD f.reason.val = true ∧ f.time ≤ s.elapsed

/-- `t` is `s` after tests of lanes and the total: only the reason set and the first reason moved, and the set only grew. -/
structure Joins (s t : State) : Prop where
  frame : t = { s with reasons := t.reasons, firstReason := t.firstReason }
  grows : s.reasons ≠ 0 → t.reasons ≠ 0
  sound : FirstSound s → FirstSound t

theorem Joins.refl (s : State) : Joins s s := ⟨rfl, id, id⟩

theorem Joins.trans (h : Joins s t) (k : Joins t u) : Joins s u :=
  ⟨k.frame.trans (by rw [h.frame]), fun ne => k.grows (h.grows ne), fun sound => k.sound (h.sound sound)⟩

theorem joinIf_sound {reached : Bool} {r : Fin 9} (h : FirstSound s) : FirstSound (joinIf reached r s) := by
  cases reached with
  | false => exact h
  | true =>
    have reasons : ∀ k, k < 9 → ((joinIf true r s).reasons.getLsbD k = true ↔ s.reasons.getLsbD k = true ∨ k = r.val) := by
      intro k hk
      simpa using joinIf_reasons (reached := true) (r := r) (s := s) hk
    have ne : (joinIf true r s).reasons ≠ 0 := joinReason_ne r s
    have first := joinIf_firstReason (reached := true) (r := r) (s := s)
    by_cases empty : s.reasons = 0
    · rw [if_pos ⟨empty, rfl⟩] at first
      refine ⟨iff_of_true (by simp [first]) ne, fun f hf => ?_⟩
      rw [first, Option.mem_def, Option.some.injEq] at hf
      subst hf
      exact ⟨(reasons _ r.isLt).2 (.inr rfl), by simp⟩
    · rw [if_neg fun both => empty both.1] at first
      refine ⟨iff_of_true (by rw [first]; exact h.first.2 empty) ne, fun f hf => ?_⟩
      rw [first] at hf
      obtain ⟨member, time⟩ := h.member f hf
      exact ⟨(reasons _ f.reason.isLt).2 (.inl member), by simpa using time⟩

theorem joinIf_joins (reached : Bool) (r : Fin 9) (s : State) : Joins s (joinIf reached r s) :=
  ⟨joinIf_frame reached r s, fun ne zero => ne (joinIf_reasons_eq_zero.1 zero).1, joinIf_sound⟩

theorem testLanes_joins (l : List (Fin 8)) (s : State) : Joins s (l.foldl testLane s) := by
  induction l generalizing s with
  | nil => exact .refl s
  | cons j l ih => exact (joinIf_joins _ _ s).trans (ih _)

/-- An evaluation: tests, and then the wake decision against the set before them (R165, R168, R171). -/
inductive Evaluates (s : State) : State → Prop
  | intro (t : State) (joins : Joins s t) : Evaluates s (wakeDecision s t)

theorem evaluateLane_evaluates (j : Fin 8) (s : State) : Evaluates s (evaluateLane j s) :=
  .intro _ ((joinIf_joins _ _ s).trans (joinIf_joins _ _ _))

theorem evaluateAll_evaluates (s : State) : Evaluates s (evaluateAll s) :=
  .intro _ ((testLanes_joins _ s).trans (joinIf_joins _ _ _))

/-- Lanes at 0 reach no threshold, so the evaluation joins nothing (R165). -/
theorem evaluateAll_of_zero (h : s.lanes = Vector.replicate 8 0) : evaluateAll s = s := by
  have lane : ∀ j : Fin 8, testLane s j = s := by
    intro j
    have zero : s.lanes[j] = 0 := by simp [h]
    refine if_neg ?_
    rw [laneReached_iff, zero]
    omega
  have lanes : ∀ l : List (Fin 8), l.foldl testLane s = s := by
    intro l
    induction l with
    | nil => rfl
    | cons j l ih => rw [List.foldl_cons, lane j, ih]
  have total : testTotal s = s := by
    refine if_neg ?_
    rw [totalReached_iff, h]
    intro ⟨ne, le⟩
    exact ne (Nat.le_zero.1 le)
  rw [evaluateAll, lanes, total]
  exact if_neg fun both => both.2.1 both.1

/-! ### The proxy state and WAKE -/

/-- The proxy state and WAKE as the work within an event can leave them: as they were, or woken (R171). -/
def Wakes (s t : State) : Prop :=
  (t.proxy = s.proxy ∧ t.wake = s.wake ∧ (s.reasons ≠ 0 → t.reasons ≠ 0)) ∨
    (s.proxy = .proxy ∧ t.proxy = .waking ∧ t.wake = true ∧ t.reasons ≠ 0)

theorem Wakes.refl (s : State) : Wakes s s := .inl ⟨rfl, rfl, id⟩

theorem Wakes.of_eq (proxy : t.proxy = s.proxy) (wake : t.wake = s.wake) (reasons : t.reasons = s.reasons) : Wakes s t :=
  .inl ⟨proxy, wake, by rw [reasons]; exact id⟩

theorem Wakes.trans (h : Wakes s t) (k : Wakes t u) : Wakes s u := by
  rcases h with ⟨p, w, r⟩ | ⟨before, after, w, r⟩
  · rcases k with ⟨p', w', r'⟩ | ⟨before', after', w', r'⟩
    · exact .inl ⟨p'.trans p, w'.trans w, fun ne => r' (r ne)⟩
    · exact .inr ⟨p ▸ before', after', w', r'⟩
  · rcases k with ⟨p', w', r'⟩ | ⟨before', -⟩
    · exact .inr ⟨before, p'.trans after, w'.trans w, r' r⟩
    · rw [after] at before'
      cases before'

theorem Evaluates.wakes (h : Evaluates s t) : Wakes s t := by
  obtain ⟨a, joins⟩ := h
  have proxy : a.proxy = s.proxy := (congrArg State.proxy joins.frame :)
  have wake : a.wake = s.wake := (congrArg State.wake joins.frame :)
  rcases wakeDecision_cases s a with e | ⟨-, ne, isProxy, e⟩ <;> rw [e]
  · exact .inl ⟨proxy, wake, joins.grows⟩
  · exact .inr ⟨proxy ▸ isProxy, rfl, rfl, ne⟩

theorem addWeight_wakes (j : Fin 8) (w : Nat) (s : State) : Wakes s (addWeight j w s) := by
  rcases addWeight_cases j w s with ⟨-, e⟩ | ⟨-, -, -, e⟩ | ⟨-, -, -, e⟩ <;> rw [e]
  · exact .refl s
  · exact .of_eq rfl rfl rfl
  · exact (Wakes.of_eq rfl rfl rfl).trans (evaluateLane_evaluates j _).wakes

theorem Touch.wakes (h : Touch s t) : Wakes s t := by
  cases h with
  | weight j w => exact addWeight_wakes j w s
  | _ => exact .of_eq rfl rfl rfl

theorem Works.wakes (h : Works s t) : Wakes s t :=
  h.keeps (P := Wakes s) (fun _ _ touch k => k.trans touch.wakes) (Wakes.refl s)

theorem startTransmit_wakes (s : State) : Wakes s (startTransmit s) := .of_eq (by simp) (by simp) (by simp)

/-! ### Assume -/

/-- The blocks started and the port taken, the settle hold running unless it is of 0 ms (R7, R168). -/
def opened (s : State) : State :=
  { sendOwner .part (startBlocks s) with
    settleTimer := if s.station.settleHold = 0 then none else some s.station.settleHold }

theorem expireSettle_started (s : State) :
    expireSettle (sendOwner .part (startBlocks s)) =
      { sendOwner .part (startBlocks s) with settleTimer := none } := by
  have zero := evaluateAll_of_zero (s := { sendOwner .part (startBlocks s) with settleTimer := none }) rfl
  rw [← zero]
  exact if_pos rfl

theorem expireIfZero_onlyDuties (s : State) (d : Fin 12) : OnlyDuties s (expireIfZero s d) := by
  unfold expireIfZero expireDutyTimer
  split
  · split
    · rfl
    · split
      · exact (updRun_onlyDuties d _ s).trans (beginRun_onlyDuties d _)
      · rfl
  · rfl

theorem expireIfZero_works (s : State) (d : Fin 12) : Works s (expireIfZero s d) := by
  unfold expireIfZero
  split
  · exact expireDutyTimer_works d s
  · exact .refl s

/-- An Assume starts the blocks, lets the first delays of 0 s expire, and serves the queue (R7). -/
theorem startProxy_eq (s : State) :
    startProxy s = startTransmit ((List.finRange 12).foldl expireIfZero (opened s)) := by
  unfold startProxy opened
  dsimp only
  split
  · rw [expireSettle_started]
  · rfl

/-- The duties after an Assume's first delays of 0 s. -/
def expired (s : State) : State := (List.finRange 12).foldl expireIfZero (opened s)

theorem expired_onlyDuties (s : State) : OnlyDuties (opened s) (expired s) := OnlyDuties.foldl _ expireIfZero_onlyDuties _ _

theorem expired_works (s : State) : Works (opened s) (expired s) := Works.foldl expireIfZero_works _ _

/-! ### Link changes -/

theorem linkUp_of_up (h : s.net ≠ .linkDown) : linkUp s = s := if_neg (by simpa using h)

/-- From LINK_DOWN a link change to UP gives ATTACHED, or CHECKING with a signature, and then works (R139). -/
theorem linkUp_works (h : s.net = .linkDown) :
    (s.signature = none ∧ Works { s with net := .attached } (linkUp s)) ∨
      (s.signature.isSome = true ∧ Works { s with net := .checking } (linkUp s)) := by
  have down : (s.net == .linkDown) = true := by simp [h]
  unfold linkUp
  rw [if_pos down]
  cases hg : s.signature with
  | none => exact .inl ⟨rfl, by simpa [hg] using resumeDeferred_works { s with net := .attached }⟩
  | some g => exact .inr ⟨rfl, by simpa [hg] using restartProbe_works { s with net := .checking }⟩

theorem linkDown_of_down (h : s.net = .linkDown) : linkDown s = s := if_pos (by simp [h])

/-- A link change to DOWN sets LINK_DOWN, removes the queued entries, and then works (R138). -/
theorem linkDown_works (h : s.net ≠ .linkDown) : Works (dropQueued { s with net := .linkDown }) (linkDown s) := by
  unfold linkDown
  rw [if_neg (by simpa using h)]
  exact (Touch.runs _ _).works.trans (arbiter_works _)

/-! ### The end of a load window -/

/-- The budget moved towards the target of the window's count (R153, R154). -/
def budgeted (s : State) : State :=
  { s with budget := moveBudget s.budget (s.curve.target s.windowCount) s.curve.ramp }

theorem endWindow_eq (s : State) : endWindow s = startWindow (takeStormVote s.windowCount (budgeted s)) := rfl

/-- The vote changes the storm vote and its statistic, and may deliver the storm weight (R156, R157). -/
theorem takeStormVote_works (n : Nat) (s : State) :
    ∃ v stats, (v = s.stormVote ∨ v ≤ 2) ∧ (s.curve.stormLevel = 0 → v = s.stormVote) ∧ s.stats.Raises stats ∧
      Works { s with stormVote := v, stats := stats } (takeStormVote n s) := by
  have raises : s.stats.Raises { s.stats with stormWindows := satAdd32 s.stats.stormWindows 1 } :=
    Stats.raises_of_satAdd (fun c => { c with stormWindows := satAdd32 c.stormWindows 1 }) (by simp) s.stats
  rcases takeStormVote_cases n s with ⟨-, e⟩ | ⟨on, -, e⟩ | ⟨on, -, few, e⟩ | ⟨on, -, -, e⟩ <;> rw [e]
  · exact ⟨s.stormVote, s.stats, .inl rfl, fun _ => rfl, ⟨id, id⟩, .refl s⟩
  · exact ⟨0, s.stats, .inr (by omega), fun off => absurd off on, ⟨id, id⟩, .refl _⟩
  · exact ⟨s.stormVote + 1, _, .inr (by omega), fun off => absurd off on, raises, .refl _⟩
  · exact ⟨0, _, .inr (by omega), fun off => absurd off on, raises, (Touch.weight _ _ _).works⟩

end Sys2Proof.Machine
end

section
/-! SUPPORT. The rules over all commands: every command completes (O2), and the proxy state and WAKE (O12). -/

namespace Sys2Proof.Machine

variable {s t u : State} {c : Instr}

/-! ### Every command completes -/

theorem exec_next (c : Instr) (s : State) : ∃ t, exec c s = .next t := by
  cases c
  case patienceExpiry =>
    obtain ⟨t, e, -⟩ := patience_acts s
    exact ⟨t, e⟩
  case gapExpiry =>
    obtain ⟨t, e, -⟩ := gap_acts s
    exact ⟨t, e⟩
  all_goals exact ⟨_, rfl⟩

theorem Loads.pending (h : Loads s t) : t.pending = s.pending := by cases h <;> rfl

theorem handbackIfClear_pending (s : State) : (handbackIfClear s).pending = s.pending := by
  rcases handbackIfClear_cases s with ⟨-, -, e⟩ | ⟨-, e⟩ <;> rw [e]
  rfl

theorem startProxy_pending (s : State) : (startProxy s).pending = s.pending := by
  rw [startProxy_eq, startTransmit_pending]
  exact (expired_works s).sameFrame.pending

theorem linkUp_pending (s : State) : (linkUp s).pending = s.pending := (congrArg State.pending (linkUp_onlyNet s) :)

theorem linkDown_pending (s : State) : (linkDown s).pending = s.pending := (congrArg State.pending (linkDown_onlyNet s) :)

theorem endWindow_pending (s : State) : (endWindow s).pending = s.pending := by
  obtain ⟨v, stats, -, -, -, works⟩ := takeStormVote_works s.windowCount (budgeted s)
  rw [endWindow_eq]
  exact works.sameFrame.pending

theorem Acts.pending (h : Acts s c t) : t.pending = s.pending := by
  cases h with
  | load _ _ idle loads => exact loads.pending
  | assume => exact startProxy_pending s
  | reclaim => exact handbackIfClear_pending _
  | complete => exact handbackIfClear_pending s
  | serve _ u busy serves =>
    obtain ⟨q, -, works⟩ := serves.works
    rw [startTransmit_pending]
    exact works.sameFrame.pending
  | lastResult r e rest =>
    rw [handbackIfClear_pending]
    exact (handResult_works e.origin r).sameFrame.pending
  | linkUp => rw [startTransmit_pending, linkUp_pending]
  | linkDown => rw [startTransmit_pending, linkDown_pending]
  | window => exact endWindow_pending s
  | settle => exact evaluateAll_pending _
  | patience => split <;> rfl
  | _ => rfl

theorem OnlyLink.pending (h : OnlyLink s t) : t.pending = s.pending := (congrArg State.pending h :)

/-- Settles O2: no arm of `exec` refuses or stops, and none touches the queue of waiting commands. -/
theorem every_command_completes : Obligations.Every_command_completes := by
  intro c s
  obtain ⟨t, e⟩ := exec_next c s
  obtain ⟨u, acts, link⟩ := exec_acts e
  exact ⟨t, e, link.pending.trans acts.pending⟩

/-! ### The proxy state and WAKE -/

/-- What a command does to the proxy state and to WAKE. -/
inductive Moves (c : Instr) (s t : State) : Prop
  | work (wakes : Wakes s t) : Moves c s t
  | still (proxy : t.proxy = s.proxy) (wake : t.wake = true → s.wake = true) : Moves c s t
  | assume (m : Request) (at_ : s.proxy = .idle) (goes : t.proxy = .proxy) (wake : t.wake = false) (is : c = .assume m) :
      Moves c s t
  | reclaim (m : Request) (at_ : s.active = true) (goes : t.proxy = .handback ∨ t.proxy = .report) (wake : t.wake = false)
      (is : c = .reclaim m) : Moves c s t
  | handed (r : TxResult) (at_ : s.proxy = .handback) (goes : t.proxy = .report) (wake : t.wake = s.wake)
      (is : c = .transmitResult r) : Moves c s t
  | leave (at_ : s.proxy = .report) (goes : t.proxy = .idle) (wake : t.wake = false)
      (is : (∃ m, c = .rearm m) ∨ ∃ m, c = .detach m) : Moves c s t
  | reset (goes : t.proxy = .idle) (wake : t.wake = false) (is : resetsPart c = true) : Moves c s t
  | gap (proxy : t.proxy = s.proxy) (is : c = .gapExpiry) : Moves c s t

theorem Loads.wakes (h : Loads s t) : Wakes s t := by cases h <;> exact .of_eq rfl rfl rfl

theorem linkUp_wakes (s : State) : Wakes s (linkUp s) := by
  by_cases h : s.net = .linkDown
  · rcases linkUp_works h with ⟨-, works⟩ | ⟨-, works⟩
    all_goals exact (Wakes.of_eq rfl rfl rfl).trans works.wakes
  · rw [linkUp_of_up h]
    exact .refl s

theorem linkDown_wakes (s : State) : Wakes s (linkDown s) := by
  by_cases h : s.net = .linkDown
  · rw [linkDown_of_down h]
    exact .refl s
  · exact (Wakes.of_eq rfl rfl rfl).trans (linkDown_works h).wakes

theorem endWindow_wakes (s : State) : Wakes s (endWindow s) := by
  obtain ⟨v, stats, -, -, -, works⟩ := takeStormVote_works s.windowCount (budgeted s)
  rw [endWindow_eq]
  exact ((Wakes.of_eq rfl rfl rfl).trans works.wakes).trans (.of_eq rfl rfl rfl)

/-- In HANDBACK between commands a frame is in flight, so handback does not complete by itself (R13). -/
theorem LifecycleInv.inFlight (h : LifecycleInv s) (hp : s.proxy = .handback) : someInFlight s.queue = true := by
  obtain ⟨ne, all⟩ := h.handback hp
  obtain ⟨e, he⟩ := List.exists_mem_of_ne_nil _ ne
  exact (someInFlight_eq_true _).2 ⟨e, he, all e he⟩

theorem handbackIfClear_moves (s : State) :
    ((handbackIfClear s).proxy = s.proxy ∨ (s.proxy = .handback ∧ (handbackIfClear s).proxy = .report)) ∧
      (handbackIfClear s).wake = s.wake := by
  rcases handbackIfClear_cases s with ⟨at_, -, e⟩ | ⟨-, e⟩ <;> rw [e]
  · exact ⟨.inr ⟨at_, rfl⟩, rfl⟩
  · exact ⟨.inl rfl, rfl⟩

theorem takePortBack_moves (s : State) :
    ((takePortBack s).proxy = .handback ∨ (takePortBack s).proxy = .report) ∧ (takePortBack s).wake = false := by
  rw [takePortBack_eq]
  obtain ⟨stays | ⟨-, done⟩, wake⟩ := handbackIfClear_moves (stopBlocks s)
  · exact ⟨.inl stays, wake⟩
  · exact ⟨.inr done, wake⟩

theorem startProxy_moves (s : State) : (startProxy s).proxy = .proxy ∧ (startProxy s).wake = false := by
  have only := (expired_onlyDuties s).eq
  rw [startProxy_eq, startTransmit_proxy, startTransmit_wake]
  exact ⟨(congrArg State.proxy only :), (congrArg State.wake only :)⟩

theorem Acts.moves (h : Acts s c t) (inv : LifecycleInv s) : Moves c s t := by
  cases h with
  | still => exact .work (.refl s)
  | reset _ resets => exact .reset rfl rfl resets
  | load _ _ idle loads => exact .work loads.wakes
  | clear m idle => exact .still idle.symm nofun
  | assume m idle => exact .assume m idle (startProxy_moves s).1 (startProxy_moves s).2 rfl
  | reclaim m active => exact .reclaim m active (takePortBack_moves s).1 (takePortBack_moves s).2 rfl
  | rearm m report => exact .leave report rfl rfl (.inl ⟨m, rfl⟩)
  | detach m report => exact .leave report rfl rfl (.inr ⟨m, rfl⟩)
  | complete =>
    rcases handbackIfClear_cases s with ⟨handback, clear, -⟩ | ⟨-, e⟩
    · rw [inv.inFlight handback] at clear
      cases clear
    · rw [e]
      exact .work (.refl s)
  | serve _ u busy serves =>
    obtain ⟨q, -, works⟩ := serves.works
    exact .work (((Wakes.of_eq (t := { s with queue := q }) rfl rfl rfl).trans works.wakes).trans (startTransmit_wakes u))
  | lastResult r e rest handback =>
    have handed := handResult_of_handback (s := { s with queue := rest }) handback e.origin r
    have proxy : (handResult e.origin r { s with queue := rest }).proxy = s.proxy := (congrArg State.proxy handed :)
    have wake : (handResult e.origin r { s with queue := rest }).wake = s.wake := (congrArg State.wake handed :)
    obtain ⟨stays | ⟨-, done⟩, same⟩ := handbackIfClear_moves (handResult e.origin r { s with queue := rest })
    · exact .still (stays.trans proxy) (by rw [same, wake]; exact id)
    · exact .handed r handback done (same.trans wake) rfl
  | linkUp =>
    have set : Wakes s { s with linkState := .up } := .of_eq rfl rfl rfl
    exact .work ((set.trans (linkUp_wakes _)).trans (startTransmit_wakes _))
  | linkDown =>
    have set : Wakes s { s with linkState := .down } := .of_eq rfl rfl rfl
    exact .work ((set.trans (linkDown_wakes _)).trans (startTransmit_wakes _))
  | window => exact .work (endWindow_wakes s)
  | settle =>
    have stopped : Wakes s { s with settleTimer := none } := .of_eq rfl rfl rfl
    exact .work (stopped.trans (evaluateAll_evaluates _).wakes)
  | patience waking =>
    split
    · exact .still rfl nofun
    · exact .still rfl id
  | gap => exact .gap rfl rfl
  | _ => exact .work (.of_eq rfl rfl rfl)

theorem Moves.onlyLink {u : State} (h : Moves c s u) (link : OnlyLink u t) : Moves c s t := by
  have proxy : t.proxy = u.proxy := (congrArg State.proxy link :)
  have wake : t.wake = u.wake := (congrArg State.wake link :)
  have reasons : t.reasons = u.reasons := (congrArg State.reasons link :)
  cases h with
  | work wakes => exact .work (wakes.trans (.of_eq proxy wake reasons))
  | still p w => exact .still (proxy.trans p) (wake ▸ w)
  | assume m at_ goes w is => exact .assume m at_ (proxy.trans goes) (wake.trans w) is
  | reclaim m at_ goes w is => exact .reclaim m at_ (by rwa [proxy]) (wake.trans w) is
  | handed r at_ goes w is => exact .handed r at_ (proxy.trans goes) (wake.trans w) is
  | leave at_ goes w is => exact .leave at_ (proxy.trans goes) (wake.trans w) is
  | reset goes w is => exact .reset (proxy.trans goes) (wake.trans w) is
  | gap p is => exact .gap (proxy.trans p) is

/-- Settles O12: the table of R1 is read off the cases of a command; the wake decision is in `Wakes`. -/
theorem proxy_state_moves_along_the_table : Obligations.Proxy_state_moves_along_the_table := by
  intro c s t inv e
  obtain ⟨u, acts, link⟩ := exec_acts e
  cases (acts.moves inv.lifecycle).onlyLink link with
  | work wakes =>
    rcases wakes with ⟨proxy, wake, -⟩ | ⟨before, after, wake, reasons⟩
    · exact ⟨fun ne => absurd proxy.symm ne, fun off on => absurd (on.symm.trans (wake.trans off)) nofun⟩
    · exact ⟨fun _ => .inr (.inl ⟨before, after, wake, reasons⟩), fun _ _ => .inl ⟨before, after⟩⟩
  | still proxy wake => exact ⟨fun ne => absurd proxy.symm ne, fun off on => absurd ((wake on).symm.trans off) nofun⟩
  | assume m at_ goes wake is =>
    exact ⟨fun _ => .inl ⟨at_, goes, m, is⟩, fun _ on => absurd (on.symm.trans wake) nofun⟩
  | reclaim m at_ goes wake is =>
    have from_ : s.proxy = .proxy ∨ s.proxy = .waking := by simpa [State.active] using at_
    exact ⟨fun _ => .inr (.inr (.inl ⟨from_, goes, m, is⟩)), fun _ on => absurd (on.symm.trans wake) nofun⟩
  | handed r at_ goes wake is =>
    exact ⟨fun _ => .inr (.inr (.inr (.inl ⟨at_, goes, r, is⟩))), fun off on => absurd (on.symm.trans (wake.trans off)) nofun⟩
  | leave at_ goes wake is =>
    exact ⟨fun _ => .inr (.inr (.inr (.inr (.inl ⟨at_, goes, is⟩)))), fun _ on => absurd (on.symm.trans wake) nofun⟩
  | reset goes wake is =>
    exact ⟨fun _ => .inr (.inr (.inr (.inr (.inr ⟨goes, is⟩)))), fun _ on => absurd (on.symm.trans wake) nofun⟩
  | gap proxy is => exact ⟨fun ne => absurd proxy.symm ne, fun _ _ => .inr is⟩

end Sys2Proof.Machine
end

section
/-! SUPPORT. The rules over all commands, continued: frames are sent one at a time (O13), and the profile changes in IDLE alone
(O14). -/

namespace Sys2Proof.Machine

variable {s t u : State} {c : Instr}

/-! ### What one command sends -/

/-- A frame that a command sends (R86, R98). -/
structure SendsFrame (c : Instr) (s t : State) (f : Frame) : Prop where
  owner : t.owner = .part
  entry : ∃ e ∈ t.queue, e.inFlight = true ∧ e.frame = f
  turn : someInFlight s.queue = true → ∃ r, c = .transmitResult r

/-- What a command sends: owner records, and at most one frame after them. -/
inductive Sends (c : Instr) (s t : State) : Prop
  | owners (out : List PortRecord) (sent : t.portOut = s.portOut ++ out) (none : ∀ f, PortRecord.frameToSend f ∉ out) :
      Sends c s t
  | frame (out : List PortRecord) (f : Frame) (sent : t.portOut = s.portOut ++ (out ++ [.frameToSend f]))
      (none : ∀ g, PortRecord.frameToSend g ∉ out) (rule : SendsFrame c s t f) : Sends c s t

theorem Sends.none (h : t.portOut = s.portOut) : Sends c s t := .owners [] (by simp [h]) (by simp)

/-- The queue served after work that keeps a frame in flight. -/
theorem startTransmit_sends (out : List PortRecord) (none : ∀ f, PortRecord.frameToSend f ∉ out)
    (sent : u.portOut = s.portOut ++ out) (owner : u.owner = .part)
    (turn : someInFlight s.queue = true → someInFlight u.queue = true ∨ ∃ r, c = .transmitResult r) :
    Sends c s (startTransmit u) := by
  rcases startTransmit_cases u with e | ⟨x, rest, -, still, -, e⟩ <;> rw [e]
  · exact .owners out sent none
  · refine .frame out x.frame (by simp [sent]) none ⟨owner, ⟨_, List.mem_cons_self, rfl, rfl⟩, fun was => ?_⟩
    exact (turn was).resolve_left (by simp [still])

theorem Touch.keeps_inFlight (h : Touch s t) (flight : someInFlight s.queue = true) : someInFlight t.queue = true := by
  cases h with
  | enqueue o cls f => simp [flight]
  | weight j w => simpa using flight
  | _ => exact flight

theorem Works.keeps_inFlight (h : Works s t) : someInFlight s.queue = true → someInFlight t.queue = true :=
  h.keeps (P := fun x => someInFlight x.queue = true) fun _ _ => Touch.keeps_inFlight

theorem linkUp_keeps_inFlight (flight : someInFlight s.queue = true) : someInFlight (linkUp s).queue = true := by
  by_cases h : s.net = .linkDown
  · rcases linkUp_works h with ⟨-, works⟩ | ⟨-, works⟩
    all_goals exact works.keeps_inFlight flight
  · rw [linkUp_of_up h]
    exact flight

theorem linkDown_keeps_inFlight (flight : someInFlight s.queue = true) : someInFlight (linkDown s).queue = true := by
  by_cases h : s.net = .linkDown
  · rw [linkDown_of_down h]
    exact flight
  · exact (linkDown_works h).keeps_inFlight ((someInFlight_filter s.queue).trans flight)

theorem linkUp_portOut (s : State) : (linkUp s).portOut = s.portOut := (congrArg State.portOut (linkUp_onlyNet s) :)

theorem linkDown_portOut (s : State) : (linkDown s).portOut = s.portOut := (congrArg State.portOut (linkDown_onlyNet s) :)

theorem linkUp_owner (s : State) : (linkUp s).owner = s.owner := (congrArg State.owner (linkUp_onlyNet s) :)

theorem linkDown_owner (s : State) : (linkDown s).owner = s.owner := (congrArg State.owner (linkDown_onlyNet s) :)

theorem handbackIfClear_sends (s : State) :
    (handbackIfClear s).portOut = s.portOut ∨ (handbackIfClear s).portOut = s.portOut ++ [.owner .host] := by
  rcases handbackIfClear_cases s with ⟨-, -, e⟩ | ⟨-, e⟩ <;> rw [e]
  · exact .inr rfl
  · exact .inl rfl

theorem Sends.handback (h : (handbackIfClear u).portOut = u.portOut ∨ (handbackIfClear u).portOut = u.portOut ++ [.owner .host])
    (sent : u.portOut = s.portOut) : Sends c s (handbackIfClear u) := by
  rw [sent] at h
  rcases h with same | owner
  · exact .none same
  · exact .owners _ owner (by simp)

theorem endWindow_portOut (s : State) : (endWindow s).portOut = s.portOut := by
  obtain ⟨v, stats, -, -, -, works⟩ := takeStormVote_works s.windowCount (budgeted s)
  rw [endWindow_eq]
  exact works.sameFrame.portOut

theorem Loads.portOut (h : Loads s t) : t.portOut = s.portOut := by cases h <;> rfl

theorem LifecycleInv.owner_of_busy (h : LifecycleInv s) (busy : s.busy) : s.owner = .part := by
  rw [h.owner]
  rcases busy with active | handback
  · have : s.proxy = .proxy ∨ s.proxy = .waking := by simpa [State.active] using active
    exact this.elim .inl fun waking => .inr (.inl waking)
  · exact .inr (.inr handback)

theorem Acts.sends (h : Acts s c t) (inv : LifecycleInv s) : Sends c s t := by
  cases h with
  | reset _ resets => exact .owners [.owner .host] rfl (by simp)
  | load _ _ idle loads => exact .none loads.portOut
  | assume m idle =>
    have works := (expired_works s).sameFrame
    rw [startProxy_eq]
    refine startTransmit_sends [.owner .part] (by simp) works.portOut works.owner fun was => ?_
    rw [inv.quiet (.inl idle)] at was
    cases was
  | reclaim => exact .handback (handbackIfClear_sends _) rfl
  | complete => exact .handback (handbackIfClear_sends s) rfl
  | serve _ u busy serves =>
    obtain ⟨q, same, works⟩ := serves.works
    refine startTransmit_sends [] (by simp) (by simp [works.sameFrame.portOut])
      (works.sameFrame.owner.trans (inv.owner_of_busy busy)) fun was => ?_
    rcases same with rfl | result
    · exact .inl (works.keeps_inFlight was)
    · exact .inr result
  | lastResult r e rest handback =>
    exact .handback (handbackIfClear_sends _) (handResult_works e.origin r).sameFrame.portOut
  | linkUp active =>
    exact startTransmit_sends [] (by simp) (by simp [linkUp_portOut]) ((linkUp_owner _).trans (inv.owner_of_busy (.inl active)))
      fun was => .inl (linkUp_keeps_inFlight was)
  | linkDown active =>
    exact startTransmit_sends [] (by simp) (by simp [linkDown_portOut])
      ((linkDown_owner _).trans (inv.owner_of_busy (.inl active))) fun was => .inl (linkDown_keeps_inFlight was)
  | window => exact .none (endWindow_portOut s)
  | settle => exact .none (evaluateAll_portOut _)
  | patience =>
    split
    · exact .none rfl
    · exact .none rfl
  | _ => exact .none rfl

/-- Settles O13: a frame leaves through `startTransmit` alone, which sends none while one is in flight. -/
theorem frames_are_sent_one_at_a_time : Obligations.Frames_are_sent_one_at_a_time := by
  intro c s t inv e
  obtain ⟨u, acts, link⟩ := exec_acts e
  have portOut : t.portOut = u.portOut := (congrArg State.portOut link :)
  have queue : t.queue = u.queue := (congrArg State.queue link :)
  have owner : t.owner = u.owner := (congrArg State.owner link :)
  cases acts.sends inv.lifecycle with
  | owners out sent none => exact ⟨out, portOut.trans sent, fun f hf => absurd hf (none f)⟩
  | frame out f sent none rule =>
    refine ⟨_, portOut.trans sent, fun g hg => ?_⟩
    have is : g = f := by simpa [none g] using hg
    subst is
    have others : (out.countP fun r => r == PortRecord.frameToSend g) = 0 := by
      rw [List.countP_eq_zero]
      intro r hr same
      rw [beq_iff_eq] at same
      exact none g (same ▸ hr)
    exact ⟨fun k hk => by simpa [none k] using hk, by simp [List.countP_append, others], owner.trans rule.owner,
      by rw [queue]; exact rule.entry, rule.turn⟩

/-! ### The profile outside IDLE -/

@[simp] theorem getElem_mapTable_nat {α β : Type} {n : Nat} (f : α → β) (v : Vector α n) (k : Nat) (h : k < n) :
    (mapTable f v)[k] = f v[k] := by
  simp [mapTable]

/-- The part of an entry that the profile gives (R46). -/
def AddrEntry.loadedPart (e : AddrEntry) : NetAddr × LoadedState × AnswerMode × Nat := (e.value, e.loaded, e.mode, e.tentativeTime)

/-- `t` has the profile of `s`, its entries and duties apart. -/
structure PlainKept (s t : State) : Prop where
  station : t.station = s.station
  groups : t.groups = s.groups
  rules : t.rules = s.rules
  pool : t.pool = s.pool
  patchLists : t.patchLists = s.patchLists
  curve : t.curve = s.curve
  laneSettings : t.laneSettings = s.laneSettings
  signature : t.signature = s.signature

theorem PlainKept.trans (h : PlainKept s t) (k : PlainKept t u) : PlainKept s u := by
  cases h
  cases k
  constructor <;> simp only [*]

theorem SameFrame.plainKept (h : SameFrame s t) : PlainKept s t := by
  cases h
  constructor <;> assumption

/-- `t` has the profile of `s`. -/
structure ProfileKept (s t : State) : Prop where
  plain : PlainKept s t
  entries : ∀ i : Fin 16, (t.entries[i]).map AddrEntry.loadedPart = (s.entries[i]).map AddrEntry.loadedPart
  probes : ∀ d : Fin 12, (t.duties[d]).probe = (s.duties[d]).probe
  duties : ∀ d : Fin 12, (t.duties[d]).duty.map Duty.profile = (s.duties[d]).duty.map Duty.profile

theorem ProfileKept.trans (h : ProfileKept s t) (k : ProfileKept t u) : ProfileKept s u where
  plain := h.plain.trans k.plain
  entries := fun i => (k.entries i).trans (h.entries i)
  probes := fun d => (k.probes d).trans (h.probes d)
  duties := fun d => (k.duties d).trans (h.duties d)

/-- The tables of entries and duties left alone. -/
theorem ProfileKept.of_tables (plain : PlainKept s t) (entries : t.entries = s.entries) (duties : t.duties = s.duties) :
    ProfileKept s t where
  plain := plain
  entries := fun i => by rw [entries]
  probes := fun d => by rw [duties]
  duties := fun d => by rw [duties]

theorem ProfileKept.refl (s : State) : ProfileKept s s := .of_tables (SameFrame.refl s).plainKept rfl rfl

theorem updEntry_profileKept (i : Fin 16) {f : AddrEntry → AddrEntry} (hf : ∀ e, (f e).loadedPart = e.loadedPart) (s : State) :
    ProfileKept s (updEntry i f s) := by
  refine ⟨by constructor <;> rfl, fun j => ?_, fun _ => rfl, fun _ => rfl⟩
  by_cases h : i = j
  · subst h
    simp [hf, Function.comp_def]
  · have : (i : Nat) ≠ j := fun same => h (Fin.ext same)
    simp [this]

theorem updRun_profileKept (d : Fin 12) (f : DutyRun → DutyRun) (s : State) : ProfileKept s (updRun d f s) := by
  have slots : ∀ j : Fin 12, ((updRun d f s).duties[j]).probe = (s.duties[j]).probe ∧
      ((updRun d f s).duties[j]).duty.map Duty.profile = (s.duties[j]).duty.map Duty.profile := by
    intro j
    by_cases h : d = j
    · subst h
      simp [updRun, Function.comp_def]
    · have : (d : Nat) ≠ j := fun same => h (Fin.ext same)
      simp [updRun, this]
  exact ⟨by constructor <;> rfl, fun _ => rfl, fun j => (slots j).1, fun j => (slots j).2⟩

theorem mapRuns_profileKept (f : Fin 12 → DutySlot → DutyRun → DutyRun) (s : State) : ProfileKept s (mapRuns f s) :=
  ⟨by constructor <;> rfl, fun _ => rfl, fun d => by simp [mapRuns], fun d => by simp [mapRuns, Function.comp_def]⟩

theorem Touch.profileKept (h : Touch s t) : ProfileKept s t := by
  cases h with
  | run d f => exact updRun_profileKept d f s
  | runs f => exact mapRuns_profileKept f s
  | weight j w => exact .of_tables (Touch.weight j w s).sameFrame.plainKept (by simp) (by simp)
  | record i a => exact updEntry_profileKept i (f := AddrEntry.recordClaim a) (fun _ => rfl) s
  | contest i e =>
    exact updEntry_profileKept i
      (f := fun a => { a with state := .contested, contestTimer := some (s.station.contestWindow * 1000) }) (fun _ => rfl) s
  | lose i => exact updEntry_profileKept i (f := AddrEntry.lose) (fun _ => rfl) s
  | _ => exact .of_tables (by constructor <;> rfl) rfl rfl

theorem Works.profileKept (h : Works s t) : ProfileKept s t :=
  h.keeps (P := ProfileKept s) (fun _ _ touch k => k.trans touch.profileKept) (ProfileKept.refl s)

theorem startTransmit_profileKept (s : State) : ProfileKept s (startTransmit s) :=
  .of_tables (by constructor <;> simp) (by simp) (by simp)

theorem setNet_profileKept (n : NetState) (s : State) : ProfileKept s { s with net := n } :=
  .of_tables (by constructor <;> rfl) rfl rfl

theorem dropQueued_profileKept (s : State) : ProfileKept s (dropQueued s) := .of_tables (by constructor <;> rfl) rfl rfl

theorem linkUp_profileKept (s : State) : ProfileKept s (linkUp s) := by
  by_cases h : s.net = .linkDown
  · rcases linkUp_works h with ⟨-, works⟩ | ⟨-, works⟩
    · exact (setNet_profileKept _ s).trans works.profileKept
    · exact (setNet_profileKept _ s).trans works.profileKept
  · rw [linkUp_of_up h]
    exact .refl s

theorem linkDown_profileKept (s : State) : ProfileKept s (linkDown s) := by
  by_cases h : s.net = .linkDown
  · rw [linkDown_of_down h]
    exact .refl s
  · exact ((setNet_profileKept _ s).trans (dropQueued_profileKept _)).trans (linkDown_works h).profileKept

theorem handbackIfClear_profileKept (s : State) : ProfileKept s (handbackIfClear s) := by
  rcases handbackIfClear_cases s with ⟨-, -, e⟩ | ⟨-, e⟩ <;> rw [e]
  · exact .of_tables (by constructor <;> rfl) rfl rfl
  · exact .refl s

theorem mapEntries_loadedPart {f : AddrEntry → AddrEntry} (hf : ∀ e, (f e).loadedPart = e.loadedPart) (i : Fin 16) :
    ((mapTable (fun e : Option AddrEntry => e.map f) s.entries)[i]).map AddrEntry.loadedPart =
      (s.entries[i]).map AddrEntry.loadedPart := by
  simp [hf, Function.comp_def]

theorem stopBlocks_profileKept (s : State) : ProfileKept s (stopBlocks s) := by
  refine ⟨by constructor <;> rfl, fun i => ?_, fun d => ?_, fun d => ?_⟩
  · exact mapEntries_loadedPart (f := fun a => { a with tentativeTimer := none, contestTimer := none }) (fun _ => rfl) i
  · simp [stopBlocks, stopTimers, mapRuns]
  · simp [stopBlocks, stopTimers, mapRuns, dropQueued, Function.comp_def]

theorem rearmAll_profileKept (s : State) : ProfileKept s (rearmAll s) := by
  refine ⟨by constructor <;> rfl, fun i => ?_, fun d => ?_, fun d => ?_⟩
  · exact mapEntries_loadedPart (f := AddrEntry.rearm) (fun _ => rfl) i
  · simp [rearmAll]
  · simp [rearmAll, Function.comp_def]

/-- An entry with one millisecond off its running timers (log 2). -/
def AddrEntry.tick (a : AddrEntry) : AddrEntry :=
  { a with tentativeTimer := Timer.tick a.tentativeTimer, contestTimer := Timer.tick a.contestTimer }

theorem tickTimers_entries (s : State) : (tickTimers s).entries = mapTable (fun e => e.map AddrEntry.tick) s.entries := rfl

theorem tickTimers_profileKept (s : State) : ProfileKept s (tickTimers s) := by
  refine ⟨by constructor <;> simp only [tickTimers], fun i => ?_, fun d => ?_, fun d => ?_⟩
  · rw [tickTimers_entries]
    exact mapEntries_loadedPart (f := AddrEntry.tick) (fun _ => rfl) i
  · simp [tickTimers]
  · simp [tickTimers, Function.comp_def]

theorem opened_entries (s : State) : (opened s).entries = mapTable (fun e => e.map AddrEntry.assume) s.entries := rfl

theorem opened_profileKept (s : State) : ProfileKept s (opened s) := by
  refine ⟨by constructor <;> rfl, fun i => ?_, fun d => ?_, fun d => ?_⟩
  · rw [opened_entries]
    exact mapEntries_loadedPart (f := AddrEntry.assume) (fun _ => rfl) i
  · simp [opened, startBlocks, sendOwner]
  · simp [opened, startBlocks, sendOwner, Function.comp_def]

theorem endWindow_profileKept (s : State) : ProfileKept s (endWindow s) := by
  obtain ⟨v, stats, -, -, -, works⟩ := takeStormVote_works s.windowCount (budgeted s)
  have moved : ProfileKept s { budgeted s with stormVote := v, stats := stats } := .of_tables (by constructor <;> rfl) rfl rfl
  rw [endWindow_eq]
  exact (moved.trans works.profileKept).trans (.of_tables (by constructor <;> rfl) rfl rfl)

theorem evaluateAll_profileKept (s : State) : ProfileKept s (evaluateAll s) :=
  .of_tables (by constructor <;> simp) (by simp) (by simp)

theorem startProxy_profileKept (s : State) : ProfileKept s (startProxy s) := by
  rw [startProxy_eq]
  exact ((opened_profileKept s).trans (expired_works s).profileKept).trans (startTransmit_profileKept _)

/-- What a command does to the profile (R83): it keeps it, loads it in IDLE, clears it in IDLE or by Detach, or resets the part. -/
inductive Reprofiles (s : State) (c : Instr) (t : State) : Prop
  | kept (profile : ProfileKept s t) : Reprofiles s c t
  | loaded (idle : s.proxy = .idle) (loads : Loads s t) : Reprofiles s c t
  | cleared (allowed : s.proxy = .idle ∨ ∃ m, c = .detach m) (to_default : t = clearAll s) : Reprofiles s c t
  | reset (resets : resetsPart c = true) (to_reset : t = resetPart s) : Reprofiles s c t

theorem Acts.reprofiles (h : Acts s c t) : Reprofiles s c t := by
  cases h with
  | reset _ resets => exact .reset resets rfl
  | load _ _ idle loads => exact .loaded idle loads
  | clear m idle => exact .cleared (.inl idle) rfl
  | assume => exact .kept (startProxy_profileKept s)
  | reclaim =>
    rw [takePortBack_eq]
    exact .kept ((stopBlocks_profileKept s).trans (handbackIfClear_profileKept _))
  | rearm => exact .kept (rearmAll_profileKept s)
  | detach m => exact .cleared (.inr ⟨m, rfl⟩) rfl
  | complete => exact .kept (handbackIfClear_profileKept s)
  | elapse =>
    have aged : ProfileKept s { s with elapsed := satAdd32 s.elapsed 1 } := .of_tables (by constructor <;> rfl) rfl rfl
    exact .kept (aged.trans (tickTimers_profileKept _))
  | serve _ u busy serves =>
    obtain ⟨q, -, works⟩ := serves.works
    have taken : ProfileKept s { s with queue := q } := .of_tables (by constructor <;> rfl) rfl rfl
    exact .kept ((taken.trans works.profileKept).trans (startTransmit_profileKept u))
  | lastResult r e rest =>
    have taken : ProfileKept s { s with queue := rest } := .of_tables (by constructor <;> rfl) rfl rfl
    exact .kept ((taken.trans (handResult_works e.origin r).profileKept).trans (handbackIfClear_profileKept _))
  | linkUp =>
    have set : ProfileKept s { s with linkState := .up } := .of_tables (by constructor <;> rfl) rfl rfl
    exact .kept ((set.trans (linkUp_profileKept _)).trans (startTransmit_profileKept _))
  | linkDown =>
    have set : ProfileKept s { s with linkState := .down } := .of_tables (by constructor <;> rfl) rfl rfl
    exact .kept ((set.trans (linkDown_profileKept _)).trans (startTransmit_profileKept _))
  | tentative i => exact .kept (updEntry_profileKept i (f := AddrEntry.expireTentative) (fun _ => rfl) s)
  | contest i => exact .kept (updEntry_profileKept i (f := AddrEntry.expireContest) (fun _ => rfl) s)
  | window => exact .kept (endWindow_profileKept s)
  | settle =>
    have stopped : ProfileKept s { s with settleTimer := none } := .of_tables (by constructor <;> rfl) rfl rfl
    exact .kept (stopped.trans (evaluateAll_profileKept _))
  | patience =>
    split
    · exact .kept (.of_tables (by constructor <;> rfl) rfl rfl)
    · exact .kept (.of_tables (by constructor <;> rfl) rfl rfl)
  | _ => exact .kept (.of_tables (by constructor <;> rfl) rfl rfl)

theorem OnlyLink.profileKept (h : OnlyLink s t) : ProfileKept s t := by
  rw [OnlyLink] at h
  rw [h]
  exact .of_tables (by constructor <;> rfl) rfl rfl

/-- Settles O14: every case of a command outside IDLE keeps the profile, a reset and Detach apart. -/
theorem profile_changes_in_idle_alone : Obligations.Profile_changes_in_idle_alone := by
  intro c s t working stays attached e
  obtain ⟨u, acts, link⟩ := exec_acts e
  have kept : ProfileKept s u := by
    cases acts.reprofiles with
    | kept profile => exact profile
    | loaded idle => exact absurd idle working
    | cleared allowed =>
      obtain ⟨m, is⟩ := allowed.resolve_left working
      exact absurd is (attached m)
    | reset resets =>
      rw [stays] at resets
      cases resets
  obtain ⟨⟨station, groups, rules, pool, patchLists, curve, laneSettings, signature⟩, entries, probes, duties⟩ :=
    kept.trans link.profileKept
  exact ⟨station, groups, rules, pool, patchLists, curve, laneSettings, signature, entries, fun d => ⟨probes d, duties d⟩⟩

end Sys2Proof.Machine
end

section
/-! SUPPORT. The rules over all commands, the last: from the Reclaim to the return to IDLE the blocks hold still (O15). -/

namespace Sys2Proof.Machine

variable {s t u : State} {c : Instr}

/-- What holds still from the Reclaim on (R10, R175). -/
structure HoldsStill (s t : State) : Prop where
  lanes : t.lanes = s.lanes
  reasons : t.reasons = s.reasons
  firstReason : t.firstReason = s.firstReason
  resignals : t.resignals = s.resignals
  net : t.net = s.net
  duties : t.duties = s.duties
  entries : t.entries = s.entries
  budget : t.budget = s.budget
  spent : t.spent = s.spent
  windowCount : t.windowCount = s.windowCount
  stormVote : t.stormVote = s.stormVote

/-- What holds still in REPORT besides (R14). -/
structure ReportStill (s t : State) : Prop where
  stats : t.stats = s.stats
  matchCounts : t.matchCounts = s.matchCounts
  elapsed : t.elapsed = s.elapsed
  report : t.report = s.report
  owner : t.owner = s.owner
  portOut : t.portOut = s.portOut

/-- The blocks and the report after a command in HANDBACK or REPORT. -/
def Rests (s t : State) : Prop := HoldsStill s t ∧ (s.proxy = .report → ReportStill s t)

theorem Rests.of_handback (handback : s.proxy = .handback) (h : HoldsStill s t) : Rests s t :=
  ⟨h, fun report => by rw [handback] at report; cases report⟩

theorem HoldsStill.trans (h : HoldsStill s t) (k : HoldsStill t u) : HoldsStill s u := by
  cases h
  cases k
  constructor <;> simp only [*]

theorem handbackIfClear_holdsStill (s : State) : HoldsStill s (handbackIfClear s) := by
  rcases handbackIfClear_cases s with ⟨-, -, e⟩ | ⟨-, e⟩ <;> rw [e] <;> constructor <;> rfl

theorem handResult_holdsStill (hp : s.proxy = .handback) (o : Origin) (r : TxResult) : HoldsStill s (handResult o r s) := by
  rw [handResult_of_handback hp]
  constructor <;> rfl

theorem Serves.holdsStill (h : Serves s c u) (hp : s.proxy = .handback) : HoldsStill s (startTransmit u) := by
  have work : HoldsStill s u := by
    rw [h.of_handback hp]
    constructor <;> rfl
  exact work.trans (by constructor <;> simp)

theorem Acts.rests (h : Acts s c t) (at_ : s.proxy = .handback ∨ s.proxy = .report) (stays : t.proxy ≠ .idle) : Rests s t := by
  have passive : s.active = false := by
    rcases at_ with hp | hp <;> simp [State.active, hp]
  have notIdle : s.proxy ≠ .idle := by
    rcases at_ with hp | hp <;> simp [hp]
  cases h with
  | reset => exact absurd rfl stays
  | load _ _ idle => exact absurd idle notIdle
  | clear m idle => exact absurd idle notIdle
  | assume m idle => exact absurd idle notIdle
  | reclaim m active => simp [passive] at active
  | rearm => exact absurd rfl stays
  | detach => exact absurd rfl stays
  | complete =>
    refine ⟨handbackIfClear_holdsStill s, fun report => ?_⟩
    rcases handbackIfClear_cases s with ⟨handback, -⟩ | ⟨-, e⟩
    · rw [report] at handback
      cases handback
    · rw [e]
      constructor <;> rfl
  | elapse active => simp [passive] at active
  | age handback => exact .of_handback handback (by constructor <;> rfl)
  | serve _ u busy serves =>
    have handback : s.proxy = .handback := busy.resolve_left (by simp [passive])
    exact .of_handback handback (serves.holdsStill handback)
  | lastResult r e rest handback =>
    have taken : HoldsStill s { s with queue := rest } := by constructor <;> rfl
    exact .of_handback handback
      ((taken.trans (handResult_holdsStill (s := { s with queue := rest }) handback e.origin r)).trans
        (handbackIfClear_holdsStill _))
  | linkUp active => simp [passive] at active
  | linkDown active => simp [passive] at active
  | tentative i active => simp [passive] at active
  | contest i active => simp [passive] at active
  | window active => simp [passive] at active
  | decay active => simp [passive] at active
  | settle active => simp [passive] at active
  | patience waking => simp [State.active, waking] at passive
  | gap waking => simp [State.active, waking] at passive
  | still => exact ⟨by constructor <;> rfl, fun _ => by constructor <;> rfl⟩
  | fetch => exact ⟨by constructor <;> rfl, fun _ => by constructor <;> rfl⟩
  | link => exact ⟨by constructor <;> rfl, fun _ => by constructor <;> rfl⟩

theorem Rests.onlyLink (h : Rests s u) (link : OnlyLink u t) : Rests s t := by
  rw [OnlyLink] at link
  rw [link]
  obtain ⟨still, report⟩ := h
  refine ⟨?_, fun at_ => ?_⟩
  · cases still
    constructor <;> assumption
  · cases report at_
    constructor <;> assumption

/-- Settles O15: of the cases of a command only few act in HANDBACK and REPORT, and none of those touches a block. -/
theorem handback_and_report_hold_still : Obligations.Handback_and_report_hold_still := by
  intro c s t at_ stays e
  obtain ⟨u, acts, link⟩ := exec_acts e
  have proxy : t.proxy = u.proxy := (congrArg State.proxy link :)
  obtain ⟨⟨lanes, reasons, first, resignals, net, duties, entries, budget, spent, count, vote⟩, report⟩ :=
    (acts.rests at_ (by rwa [← proxy])).onlyLink link
  refine ⟨lanes, reasons, first, resignals, net, duties, entries, budget, spent, count, vote, fun inReport => ?_⟩
  obtain ⟨stats, matchCounts, elapsed, rep, owner, portOut⟩ := report inReport
  exact ⟨stats, matchCounts, elapsed, rep, owner, portOut⟩

end Sys2Proof.Machine
end

section
/-! SUPPORT. One step from a state with the invariants, and the first of them: the ranges of the profile (O6). -/

namespace Sys2Proof.Machine

variable {s t u : State} {c : Instr}

/-! ### From a step to a command -/

/-- The invariants do not speak of the waiting commands. -/
theorem Inv.of_pending (h : Inv s) (rest : List Instr) : Inv { s with pending := rest } where
  ranges := by cases h.ranges; constructor <;> assumption
  pool := by cases h.pool; constructor <;> assumption
  queue := by cases h.queue; constructor <;> assumption
  dutyQueue := by cases h.dutyQueue; constructor <;> assumption
  blocked := h.blocked
  duty := by cases h.duty; constructor <;> assumption
  entry := by cases h.entry; constructor <;> assumption
  timers := by cases h.timers; constructor <;> assumption
  wake := by cases h.wake; constructor <;> assumption
  governor := by cases h.governor; constructor <;> assumption
  held := by cases h.held; constructor <;> assumption
  lifecycle := by cases h.lifecycle; constructor <;> assumption
  net := by cases h.net; constructor <;> assumption
  stats := by cases h.stats; constructor <;> assumption
  reply := h.reply

/-- A step idles, or runs a command from a state with the invariants. -/
theorem step_runs (inv : Inv s) (h : step s = .next t) : t = s ∨ ∃ c s', Inv s' ∧ exec c s' = .next t := by
  cases hp : s.pending with
  | nil =>
    have idles := step_runs_the_front_command.2 s hp
    rw [idles, Host.Outcome.next.injEq] at h
    exact .inl h.symm
  | cons c rest =>
    have runs := step_runs_the_front_command.1 c rest s
    have same : { s with pending := c :: rest } = s := by rw [← hp]
    rw [same, h] at runs
    exact .inr ⟨c, _, inv.of_pending rest, runs.symm⟩

/-- A property that the work of every command gives, and that does not speak of the Control Link, holds after every step. -/
theorem step_keeps {P : State → Prop} (same : ∀ s, Inv s → P s) (link : ∀ s t, OnlyLink s t → P s → P t)
    (acts : ∀ c s u, Inv s → Acts s c u → P u) (inv : Inv s) (h : step s = .next t) : P t := by
  rcases step_runs inv h with rfl | ⟨c, s', inv', e⟩
  · exact same _ inv
  · obtain ⟨u, act, only⟩ := exec_acts e
    exact link u t only (acts c s' u inv' act)

/-! ### The ranges of the profile -/

/-- The profile and the Template Pool in order (R4, R26, R32, R65, R66, R68, R103, R136, R149, R162). -/
def ProfileInv (s : State) : Prop := RangesInv s ∧ PoolInv s

theorem PoolInv.of_pool (h : PoolInv s) (same : t.pool = s.pool) : PoolInv t := by
  obtain ⟨ids, lengths, room⟩ := h
  exact ⟨by rwa [same], by rwa [same], by rwa [poolUsed, same]⟩

theorem ProfileKept.ranges (k : ProfileKept s t) (h : RangesInv s) : RangesInv t where
  station := by rw [k.plain.station]; exact h.station
  groups := by rw [k.plain.groups]; exact h.groups
  rules := by rw [k.plain.rules]; exact h.rules
  lists := by rw [k.plain.patchLists]; exact h.lists
  lanes := by rw [k.plain.laneSettings]; exact h.lanes
  curve := by rw [k.plain.curve]; exact h.curve
  signature := by rw [k.plain.signature]; exact h.signature
  entries := by
    intro i e he
    have same := k.entries i
    rw [Option.mem_def] at he
    rw [he, Option.map_some, eq_comm, Option.map_eq_some_iff] at same
    obtain ⟨a, ha, part⟩ := same
    have time : a.tentativeTime = e.tentativeTime := congrArg (fun p => p.2.2.2) part
    rw [← time]
    exact h.entries i a ha
  duties := by
    intro d u hu
    have same := k.duties d
    rw [Option.mem_def] at hu
    rw [hu, Option.map_some, eq_comm, Option.map_eq_some_iff] at same
    obtain ⟨a, ha, profile⟩ := same
    rw [← profile]
    exact h.duties d a ha

theorem ProfileKept.profileInv (k : ProfileKept s t) (h : ProfileInv s) : ProfileInv t :=
  ⟨k.ranges h.1, h.2.of_pool k.plain.pool⟩

/-- Detach and Clear Profile leave the profile of a reset (R16, R20). -/
theorem clearAll_profileKept (s : State) : ProfileKept (resetPart s) (clearAll s) :=
  .of_tables (by constructor <;> rfl) rfl rfl

/-- What holds at every place of a table still does after one place is replaced by a value it holds of. -/
theorem set_forall {α : Type} {n : Nat} {P : α → Prop} {v : Vector α n} (h : ∀ j : Fin n, P v[j]) (i : Fin n) {x : α} (hx : P x)
    (j : Fin n) : P (v.set i x)[j] := by
  by_cases same : i = j
  · subst same
    simpa using hx
  · have ne : (i : Nat) ≠ j := fun e => same (Fin.ext e)
    have kept : (v.set i x)[j] = v[j] := by simp [ne]
    rw [kept]
    exact h j

theorem Loads.ranges (h : Loads s t) (r : RangesInv s) : RangesInv t := by
  obtain ⟨station, entries, groups, rules, lists, duties, lanes, curve, signature⟩ := r
  cases h with
  | station t inRange => exact ⟨inRange, entries, groups, rules, lists, duties, lanes, curve, signature⟩
  | address i entry fresh =>
    exact ⟨station, set_forall (P := fun x : Option AddrEntry => ∀ e ∈ x, 1 ≤ e.tentativeTime ∧ e.tentativeTime ≤ 10) entries i
      fun e he => (fresh e he).time, groups, rules, lists, duties, lanes, curve, signature⟩
  | group i g inRange =>
    exact ⟨station, entries, set_forall (P := fun g : GroupEntry => 1 ≤ g.matchLen ∧ g.matchLen ≤ 6) groups i inRange, rules, lists, duties,
      lanes, curve, signature⟩
  | rule i r next inRange =>
    exact ⟨station, entries, groups, set_forall (P := Rule.InRange) rules i inRange, lists, duties, lanes, curve, signature⟩
  | template => exact ⟨station, entries, groups, rules, lists, duties, lanes, curve, signature⟩
  | patchList i list inRange =>
    exact ⟨station, entries, groups, rules,
      set_forall (P := fun x : Option (List Patch) => ∀ ps ∈ x, ps.length ≤ 8 ∧ ∀ p ∈ ps, p.InRange) lists i inRange, duties, lanes, curve, signature⟩
  | duty d u next fresh =>
    exact ⟨station, entries, groups, rules, lists,
      set_forall (P := fun slot : DutySlot => ∀ u ∈ slot.duty, u.profile.InRange) duties d fun x hx => (fresh x hx).profile,
      lanes, curve, signature⟩
  | lanes v inRange => exact ⟨station, entries, groups, rules, lists, duties, inRange, curve, signature⟩
  | curve c inRange => exact ⟨station, entries, groups, rules, lists, duties, lanes, inRange, signature⟩
  | signature g inRange =>
    exact ⟨station, entries, groups, rules, lists, fun d u hu => duties d u (by simpa [setProbeFlags] using hu), lanes, curve,
      inRange⟩

theorem Loads.pool (h : Loads s t) (p : PoolInv s) : PoolInv t := by
  cases h with
  | template id bytes fresh size room =>
    obtain ⟨ids, lengths, used⟩ := p
    refine ⟨?_, fun x hx => ?_, ?_⟩
    · simp only [List.map_append, List.map_cons, List.map_nil]
      refine List.nodup_append.2 ⟨ids, List.nodup_singleton _, fun a ha b hb => ?_⟩
      obtain ⟨x, hx, rfl⟩ := List.mem_map.1 ha
      rw [List.mem_singleton] at hb
      rw [hb]
      exact fresh x hx
    · rcases List.mem_append.1 hx with old | new
      · exact lengths x old
      · rw [List.mem_singleton] at new
        rw [new]
        exact size
    · simp only [freePoolBytes, Config.poolBytes, poolUsed] at room used ⊢
      simp only [List.map_append, List.sum_append, List.map_cons, List.map_nil, List.sum_cons, List.sum_nil]
      omega
  | _ => exact p.of_pool rfl

theorem Acts.profileInv (h : Acts s c t) (inv : Inv s) : ProfileInv t := by
  have after_reset : ProfileInv (resetPart s) := ⟨(resetPart_inv s).ranges, (resetPart_inv s).pool⟩
  cases h.reprofiles with
  | kept profile => exact profile.profileInv ⟨inv.ranges, inv.pool⟩
  | loaded idle loads => exact ⟨loads.ranges inv.ranges, loads.pool inv.pool⟩
  | cleared allowed cleared =>
    rw [cleared]
    exact (clearAll_profileKept s).profileInv after_reset
  | reset resets reset =>
    rw [reset]
    exact after_reset

/-- Settles O6: a command keeps the profile, loads values in range, clears the profile, or resets the part. -/
theorem step_keeps_profile_ranges : Obligations.Step_keeps_profile_ranges := fun _ _ inv h =>
  step_keeps (P := ProfileInv) (fun _ inv => ⟨inv.ranges, inv.pool⟩) (fun _ _ link => link.profileKept.profileInv)
    (fun _ _ _ inv acts => acts.profileInv inv) inv h

end Sys2Proof.Machine
end

section
/-! SUPPORT. The lifecycle and the Network Check over every step (O11). -/

namespace Sys2Proof.Machine

variable {s t u : State} {c : Instr}

/-! ### The lifecycle by proxy state -/

/-- While the part proxies, the lifecycle's facts are the owner and the absent report. -/
theorem LifecycleInv.of_active (active : t.active = true) (owner : t.owner = .part) (report : t.report = none) :
    LifecycleInv t := by
  have at_ : t.proxy = .proxy ∨ t.proxy = .waking := by simpa [State.active] using active
  constructor
  all_goals rcases at_ with hp | hp <;> simp [hp, owner, report]

theorem LifecycleInv.of_idle (idle : t.proxy = .idle) (owner : t.owner = .host) (report : t.report = none) (queue : t.queue = []) :
    LifecycleInv t := by
  constructor <;> simp [idle, owner, report, queue]

theorem LifecycleInv.report_none (h : LifecycleInv s) (hp : s.proxy ≠ .report) : s.report = none := by
  cases hr : s.report with
  | none => rfl
  | some r => exact absurd (h.report.1 (by simp [hr])) hp

theorem LifecycleInv.owner_host (h : LifecycleInv s) (hp : s.proxy = .idle ∨ s.proxy = .report) : s.owner = .host := by
  cases ho : s.owner with
  | host => rfl
  | part =>
    have := h.owner.1 ho
    rcases hp with hp | hp <;> simp [hp] at this

theorem not_report_of_active (active : s.active = true) : s.proxy ≠ .report := by
  intro hp
  simp [State.active, hp] at active

theorem not_idle_of_active (active : s.active = true) : s.proxy ≠ .idle := by
  intro hp
  simp [State.active, hp] at active

/-- Work while the part proxies keeps the lifecycle's facts. -/
theorem LifecycleInv.work (h : LifecycleInv s) (active : s.active = true) (stays : t.active = true) (owner : t.owner = s.owner)
    (report : t.report = s.report) : LifecycleInv t :=
  .of_active stays (owner.trans (h.owner_of_busy (.inl active))) (report.trans (h.report_none (not_report_of_active active)))

/-- What the state says of the Reclaim carries over to the report (R184). -/
theorem completeHandback_lifecycle (claimed : ReclaimSays s.reclaimState s.hostInitiated s.reasons s.firstReason)
    (time : s.reclaimTime ≤ s.elapsed) (queue : s.queue = []) : LifecycleInv (completeHandback s) where
  owner := by simp [completeHandback, sendOwner]
  report := by simp [completeHandback]
  quiet := fun _ => queue
  handback := fun hp => by simp [completeHandback] at hp
  reclaim := fun hp => by simp [completeHandback] at hp
  report_says := by
    intro r hr
    simp only [completeHandback, Option.mem_def, Option.some.injEq] at hr
    rw [← hr]
    exact ⟨claimed, time⟩

/-- HANDBACK, with the frame in flight or handed back at once (R10, R13). -/
theorem handbackIfClear_lifecycle (hp : s.proxy = .handback) (owner : s.owner = .part) (report : s.report = none)
    (claimed : ReclaimSays s.reclaimState s.hostInitiated s.reasons s.firstReason) (time : s.reclaimTime ≤ s.elapsed)
    (flight : ∀ e ∈ s.queue, e.inFlight = true) : LifecycleInv (handbackIfClear s) := by
  cases clear : someInFlight s.queue with
  | false =>
    have queue : s.queue = [] := List.eq_nil_iff_forall_not_mem.2 fun e he => by
      simpa [flight e he] using (someInFlight_eq_false _).1 clear e he
    rw [handbackIfClear_of_clear hp clear]
    exact completeHandback_lifecycle claimed time queue
  | true =>
    rw [handbackIfClear_of_inFlight clear]
    constructor
    case handback =>
      intro _
      obtain ⟨e, he, -⟩ := (someInFlight_eq_true _).1 clear
      exact ⟨List.ne_nil_of_mem he, flight⟩
    case reclaim => exact fun _ => ⟨claimed, time⟩
    all_goals simp [hp, owner, report]

/-- What the Wake Unit says at the moment of a Reclaim (R10, R171). -/
theorem WakeInv.reclaimSays (h : WakeInv s) (active : s.active = true) :
    ReclaimSays s.proxy (s.proxy == .proxy) s.reasons s.firstReason := by
  have at_ : s.proxy = .proxy ∨ s.proxy = .waking := by simpa [State.active] using active
  rcases at_ with hp | hp
  · exact .inl ⟨hp, by simp [hp], (h.proxy hp).1⟩
  · exact .inr ⟨hp, by simp [hp], h.waking hp, h.first.2 (h.waking hp)⟩

theorem takePortBack_lifecycle (inv : Inv s) (active : s.active = true) : LifecycleInv (takePortBack s) := by
  rw [takePortBack_eq]
  refine handbackIfClear_lifecycle rfl (inv.lifecycle.owner_of_busy (.inl active))
    (inv.lifecycle.report_none (not_report_of_active active)) (inv.wake.reclaimSays active) le_rfl fun e he => ?_
  rw [stopBlocks_queue] at he
  exact (List.mem_filter.1 he).2

/-- With one entry in flight and all in flight, the queue is that entry. -/
theorem rest_nil_of_all_inFlight {q rest : List TxEntry} {e : TxEntry} (one : (q.countP fun e => e.inFlight) ≤ 1)
    (all : ∀ x ∈ q, x.inFlight = true) (h : takeInFlight q = some (e, rest)) : rest = [] := by
  obtain ⟨before, after, rfl, rfl, -, -⟩ := takeInFlight_some h
  have count : (before ++ e :: after).countP (fun e => e.inFlight) = (before ++ e :: after).length := by
    rw [List.countP_eq_length]
    exact all
  rw [count] at one
  simp only [List.length_append, List.length_cons] at one
  exact List.append_eq_nil_iff.2 ⟨List.eq_nil_of_length_eq_zero (by omega), List.eq_nil_of_length_eq_zero (by omega)⟩

theorem lastResult_lifecycle (inv : Inv s) (handback : s.proxy = .handback) {e : TxEntry} {rest : List TxEntry} (r : TxResult)
    (flight : takeInFlight s.queue = some (e, rest)) :
    LifecycleInv (handbackIfClear (handResult e.origin r { s with queue := rest })) := by
  have nil := rest_nil_of_all_inFlight inv.queue.one_in_flight (inv.lifecycle.handback handback).2 flight
  obtain ⟨claimed, time⟩ := inv.lifecycle.reclaim handback
  rw [handResult_of_handback (s := { s with queue := rest }) handback e.origin r]
  exact handbackIfClear_lifecycle handback (inv.lifecycle.owner_of_busy (.inr handback))
    (inv.lifecycle.report_none (by simp [handback])) claimed time (by simp [nil])

/-- In HANDBACK a frame stays in flight, so that serving the queue hands nothing over. -/
theorem Serves.startTransmit_of_handback (h : Serves s c u) (inv : LifecycleInv s) (handback : s.proxy = .handback) :
    startTransmit u = u := by
  have queue : u.queue = s.queue := (congrArg State.queue (h.of_handback handback) :)
  exact startTransmit_of_inFlight u (by rw [queue]; exact inv.inFlight handback)

/-- A change in HANDBACK or REPORT that the lifecycle's facts do not speak of; elapsed time may rise in HANDBACK. -/
theorem LifecycleInv.same (h : LifecycleInv s) (proxy : t.proxy = s.proxy) (owner : t.owner = s.owner) (report : t.report = s.report)
    (queue : t.queue = s.queue) (state : t.reclaimState = s.reclaimState) (host : t.hostInitiated = s.hostInitiated)
    (reasons : t.reasons = s.reasons) (first : t.firstReason = s.firstReason) (time : t.reclaimTime = s.reclaimTime)
    (elapsed : s.elapsed ≤ t.elapsed) : LifecycleInv t where
  owner := by rw [owner, proxy]; exact h.owner
  report := by rw [report, proxy]; exact h.report
  quiet := by rw [queue, proxy]; exact h.quiet
  handback := by rw [queue, proxy]; exact h.handback
  reclaim := by
    rw [proxy, state, host, reasons, first, time]
    exact fun hp => ⟨(h.reclaim hp).1, (h.reclaim hp).2.trans elapsed⟩
  report_says := by rw [report]; exact h.report_says

theorem Loads.lifecycle (h : Loads s t) (inv : LifecycleInv s) : LifecycleInv t := by
  cases h <;> exact inv.same rfl rfl rfl rfl rfl rfl rfl rfl rfl le_rfl

theorem satAdd32_ge {n : Nat} (h : n ≤ 4294967295) : n ≤ satAdd32 n 1 := by
  simp only [satAdd32, Config.max32]
  omega

theorem Serves.active (h : Serves s c u) : (startTransmit u).active = s.active ∧ (startTransmit u).owner = s.owner ∧
    (startTransmit u).report = s.report := by
  obtain ⟨q, -, works⟩ := h.works
  obtain same := works.sameFrame
  rw [startTransmit_active, startTransmit_owner, startTransmit_report]
  exact ⟨same.active, same.owner, same.report⟩

theorem endWindow_frame (s : State) : (endWindow s).active = s.active ∧ (endWindow s).owner = s.owner ∧
    (endWindow s).report = s.report := by
  obtain ⟨v, stats, -, -, -, works⟩ := takeStormVote_works s.windowCount (budgeted s)
  rw [endWindow_eq]
  exact ⟨works.sameFrame.active, works.sameFrame.owner, works.sameFrame.report⟩

theorem linkUp_frame (s : State) : (linkUp s).active = s.active ∧ (linkUp s).owner = s.owner ∧ (linkUp s).report = s.report := by
  by_cases h : s.net = .linkDown
  · rcases linkUp_works h with ⟨-, works⟩ | ⟨-, works⟩
    all_goals exact ⟨works.sameFrame.active, works.sameFrame.owner, works.sameFrame.report⟩
  · rw [linkUp_of_up h]
    exact ⟨rfl, rfl, rfl⟩

theorem linkDown_frame (s : State) :
    (linkDown s).active = s.active ∧ (linkDown s).owner = s.owner ∧ (linkDown s).report = s.report := by
  by_cases h : s.net = .linkDown
  · rw [linkDown_of_down h]
    exact ⟨rfl, rfl, rfl⟩
  · have same := (linkDown_works h).sameFrame
    exact ⟨same.active, same.owner, same.report⟩

theorem startProxy_frame (s : State) :
    (startProxy s).active = true ∧ (startProxy s).owner = .part ∧ (startProxy s).report = s.report := by
  have same := (expired_works s).sameFrame
  rw [startProxy_eq, startTransmit_active, startTransmit_owner, startTransmit_report]
  exact ⟨same.active, same.owner, same.report⟩

theorem Acts.lifecycle (h : Acts s c t) (inv : Inv s) : LifecycleInv t := by
  have life := inv.lifecycle
  cases h with
  | still => exact life
  | reset => exact (resetPart_inv s).lifecycle
  | load _ _ idle loads => exact loads.lifecycle life
  | clear m idle =>
    exact .of_idle rfl (life.owner_host (.inl idle)) rfl (life.quiet (.inl idle))
  | assume m idle =>
    obtain ⟨active, owner, report⟩ := startProxy_frame s
    exact .of_active active owner (report.trans (life.report_none (by simp [idle])))
  | reclaim m active => exact takePortBack_lifecycle inv active
  | rearm m report => exact .of_idle rfl (life.owner_host (.inr report)) rfl (life.quiet (.inr report))
  | detach m report => exact .of_idle rfl (life.owner_host (.inr report)) rfl (life.quiet (.inr report))
  | fetch => exact life.same rfl rfl rfl rfl rfl rfl rfl rfl rfl le_rfl
  | complete =>
    rcases handbackIfClear_cases s with ⟨handback, clear, -⟩ | ⟨-, e⟩
    · rw [life.inFlight handback] at clear
      cases clear
    · rw [e]
      exact life
  | elapse active => exact life.work active active rfl rfl
  | age handback => exact life.same rfl rfl rfl rfl rfl rfl rfl rfl rfl (satAdd32_ge inv.stats.elapsed_le)
  | serve _ u busy serves =>
    rcases busy with active | handback
    · obtain ⟨stays, owner, report⟩ := serves.active
      exact life.work active (stays.trans active) owner report
    · rw [serves.startTransmit_of_handback life handback, serves.of_handback handback]
      exact life.same rfl rfl rfl rfl rfl rfl rfl rfl rfl le_rfl
  | lastResult r e rest handback flight => exact lastResult_lifecycle inv handback r flight
  | link l => exact life.same rfl rfl rfl rfl rfl rfl rfl rfl rfl le_rfl
  | linkUp active =>
    obtain ⟨stays, owner, report⟩ := linkUp_frame { s with linkState := .up }
    exact life.work active (by rw [startTransmit_active, stays]; exact active) (by simp [owner]) (by simp [report])
  | linkDown active =>
    obtain ⟨stays, owner, report⟩ := linkDown_frame { s with linkState := .down }
    exact life.work active (by rw [startTransmit_active, stays]; exact active) (by simp [owner]) (by simp [report])
  | tentative i active => exact life.work active active rfl rfl
  | contest i active => exact life.work active active rfl rfl
  | window active =>
    obtain ⟨stays, owner, report⟩ := endWindow_frame s
    exact life.work active (stays.trans active) owner report
  | decay active => exact life.work active active rfl rfl
  | settle active => exact life.work active (by rw [evaluateAll_active]; exact active) (by simp) (by simp)
  | patience waking =>
    split
    · exact life.same rfl rfl rfl rfl rfl rfl rfl rfl rfl le_rfl
    · exact life.same rfl rfl rfl rfl rfl rfl rfl rfl rfl le_rfl
  | gap waking => exact life.same rfl rfl rfl rfl rfl rfl rfl rfl rfl le_rfl

end Sys2Proof.Machine
end

section
/-! SUPPORT. The Network Check over every step; with the lifecycle, obligation O11. -/

namespace Sys2Proof.Machine

variable {s t u : State} {c : Instr}

/-! ### The network state within an event -/

/-- The network state against the link and the signature, while the part proxies (R137, R139). -/
structure WorkNet (s : State) : Prop where
  link : s.net = .linkDown ↔ s.linkState ≠ .up
  signature : s.signature = none → s.net = .attached ∨ s.net = .linkDown

theorem NetInv.workNet (h : NetInv s) (active : s.active = true) : WorkNet s :=
  ⟨h.link active, h.signature (not_idle_of_active active)⟩

theorem WorkNet.same (h : WorkNet s) (net : t.net = s.net) (link : t.linkState = s.linkState) (signature : t.signature = s.signature) :
    WorkNet t :=
  ⟨by rw [net, link]; exact h.link, by rw [net, signature]; exact h.signature⟩

theorem Touch.workNet (touch : Touch s t) (h : WorkNet s) : WorkNet t := by
  cases touch with
  | net n _ up stays signed =>
    refine ⟨iff_of_false stays (fun down => up (h.link.2 down)), fun (unsigned : s.signature = none) => ?_⟩
    rcases signed with attached | some | checking
    · exact .inl attached
    · rw [unsigned] at some
      cases some
    · rcases h.signature unsigned with e | e <;> rw [e] at checking <;> cases checking
  | weight j w => exact h.same (by simp) (by simp) (by simp)
  | _ => exact h.same rfl rfl rfl

theorem Works.workNet (works : Works s t) (h : WorkNet s) : WorkNet t := works.keeps (P := WorkNet) (fun _ _ => Touch.workNet) h

theorem linkUp_workNet (down : s.net = .linkDown) (up : s.linkState = .up) : WorkNet (linkUp s) := by
  rcases linkUp_works down with ⟨-, works⟩ | ⟨signed, works⟩
  · exact works.workNet ⟨iff_of_false nofun (by simp [up]), fun _ => .inl rfl⟩
  · refine works.workNet ⟨iff_of_false nofun (by simp [up]), fun (unsigned : s.signature = none) => ?_⟩
    rw [unsigned] at signed
    cases signed

theorem linkDown_workNet (link : s.linkState = .down) : WorkNet (linkDown s) := by
  have notUp : s.linkState ≠ .up := by simp [link]
  by_cases down : s.net = .linkDown
  · rw [linkDown_of_down down]
    exact ⟨iff_of_true down notUp, fun _ => .inr down⟩
  · exact (linkDown_works down).workNet ⟨iff_of_true rfl notUp, fun _ => .inr rfl⟩

/-! ### The probe flag and the probe's reply pattern -/

theorem ProfileKept.flags (k : ProfileKept s t) (h : ∀ d : Fin 12, ((s.duties[d]).probe = true ↔ ∃ g ∈ s.signature, g.probeDuty = d)) :
    ∀ d : Fin 12, ((t.duties[d]).probe = true ↔ ∃ g ∈ t.signature, g.probeDuty = d) := by
  intro d
  rw [k.probes d, k.plain.signature]
  exact h d

theorem ProfileKept.probe (k : ProfileKept s t)
    (h : ∀ g ∈ s.signature, ∃ u ∈ (s.duties[g.probeDuty]).duty, u.profile.reply.isSome = true) :
    ∀ g ∈ t.signature, ∃ u ∈ (t.duties[g.probeDuty]).duty, u.profile.reply.isSome = true := by
  intro g hg
  rw [k.plain.signature] at hg
  obtain ⟨u, hu, reply⟩ := h g hg
  have same := k.duties g.probeDuty
  rw [Option.mem_def] at hu
  rw [hu, Option.map_some, Option.map_eq_some_iff] at same
  obtain ⟨v, hv, profile⟩ := same
  exact ⟨v, hv, by rwa [profile]⟩

/-- Work while the part proxies. -/
theorem NetInv.work (h : NetInv s) (active : s.active = true) (kept : ProfileKept s t) (net : WorkNet t) : NetInv t where
  flags := kept.flags h.flags
  link := fun _ => net.link
  signature := fun _ => net.signature
  probe := fun _ => kept.probe (h.probe active)

/-- Work outside PROXY and WAKING that leaves the network state. -/
theorem NetInv.rest (h : NetInv s) (kept : ProfileKept s t) (passive : t.active = false) (idle : s.proxy = .idle → t.proxy = .idle)
    (net : t.net = s.net) : NetInv t where
  flags := kept.flags h.flags
  link := fun active => absurd (active.symm.trans passive) nofun
  signature := fun working => by
    rw [kept.plain.signature, net]
    exact h.signature fun at_ => working (idle at_)
  probe := fun active => absurd (active.symm.trans passive) nofun

/-- In IDLE the flags are all that the Network Check's facts say. -/
theorem NetInv.of_idle (idle : t.proxy = .idle)
    (flags : ∀ d : Fin 12, ((t.duties[d]).probe = true ↔ ∃ g ∈ t.signature, g.probeDuty = d)) : NetInv t where
  flags := flags
  link := fun active => absurd idle (not_idle_of_active active)
  signature := fun working => absurd idle working
  probe := fun active => absurd idle (not_idle_of_active active)

theorem Loads.proxy (h : Loads s t) : t.proxy = s.proxy := by cases h <;> rfl

theorem Loads.flags (h : Loads s t) (flags : ∀ d : Fin 12, ((s.duties[d]).probe = true ↔ ∃ g ∈ s.signature, g.probeDuty = d)) :
    ∀ d : Fin 12, ((t.duties[d]).probe = true ↔ ∃ g ∈ t.signature, g.probeDuty = d) := by
  cases h with
  | signature g inRange =>
    intro d
    cases g <;> simp [setProbeFlags]
  | duty d u next fresh =>
    intro e
    have probe : ((s.duties.set d { s.duties[d] with duty := u })[e]).probe = (s.duties[e]).probe := by
      by_cases same : d = e
      · subst same
        simp
      · have ne : (d : Nat) ≠ e := fun h => same (Fin.ext h)
        simp [ne]
    dsimp only
    rw [probe]
    exact flags e
  | _ => exact flags

/-- An Assume whose profile passes has a probe that expects a reply (check 8). -/
theorem probe_replies_of_passed (ok : profileCheck s = none) :
    ∀ g ∈ s.signature, ∃ u ∈ (s.duties[g.probeDuty]).duty, u.profile.reply.isSome = true := by
  intro g hg
  simp only [profileCheck, Option.orElse_eq_orElse, Option.orElse_eq_or, Option.or_eq_none_iff] at ok
  obtain ⟨-, -, -, -, -, -, -, -, -, probe, -⟩ := ok
  rw [Option.mem_def] at hg
  have passes : probeMissing s = false := by
    by_contra missing
    rw [Bool.not_eq_false] at missing
    simp [missing] at probe
  simpa [probeMissing, hg, duty?, Option.any_eq_true] using passes

theorem startProxy_workNet (s : State) : WorkNet (startProxy s) := by
  have start : WorkNet (opened s) := by
    have net : (opened s).net = netAtAssume s.linkState := rfl
    have link : (opened s).linkState = s.linkState := rfl
    refine ⟨?_, fun _ => ?_⟩ <;> rw [net]
    · rw [link]
      cases s.linkState <;> simp [netAtAssume]
    · cases s.linkState <;> simp [netAtAssume]
  have work := (expired_works s).workNet start
  rw [startProxy_eq]
  exact work.same (by simp [expired]) (by simp [expired]) (by simp [expired])

theorem startProxy_netInv (h : NetInv s) (ok : profileCheck s = none) : NetInv (startProxy s) where
  flags := (startProxy_profileKept s).flags h.flags
  link := fun _ => (startProxy_workNet s).link
  signature := fun _ => (startProxy_workNet s).signature
  probe := fun _ => (startProxy_profileKept s).probe (probe_replies_of_passed ok)

theorem endWindow_net (s : State) : (endWindow s).net = s.net ∧ (endWindow s).linkState = s.linkState ∧
    (endWindow s).signature = s.signature := by
  rw [endWindow_eq]
  rcases takeStormVote_cases s.windowCount (budgeted s) with ⟨-, e⟩ | ⟨-, -, e⟩ | ⟨-, -, -, e⟩ | ⟨-, -, -, e⟩ <;> rw [e]
  · exact ⟨rfl, rfl, rfl⟩
  · exact ⟨rfl, rfl, rfl⟩
  · exact ⟨rfl, rfl, rfl⟩
  · exact ⟨addWeight_net _ _ _, addWeight_linkState _ _ _, addWeight_signature _ _ _⟩

theorem handbackIfClear_net (s : State) : (handbackIfClear s).net = s.net := by
  rcases handbackIfClear_cases s with ⟨-, -, e⟩ | ⟨-, e⟩ <;> rw [e]
  rfl

theorem handbackIfClear_proxy (s : State) : (handbackIfClear s).proxy = s.proxy ∨ (handbackIfClear s).proxy = .report :=
  (handbackIfClear_moves s).1.imp_right And.right

theorem handbackIfClear_passive (hp : s.proxy = .handback) : (handbackIfClear s).active = false := by
  rcases handbackIfClear_proxy s with e | e <;> simp [State.active, e, hp]

/-- Only an event that starts or ends the work of the part changes the network state's facts. -/
theorem Acts.netInv (h : Acts s c t) (inv : Inv s) : NetInv t := by
  have net := inv.net
  cases h with
  | still => exact net
  | reset => exact (resetPart_inv s).net
  | load _ _ idle loads => exact .of_idle (loads.proxy.trans idle) (loads.flags net.flags)
  | clear => exact .of_idle rfl ((clearAll_profileKept s).flags (resetPart_inv s).net.flags)
  | detach => exact .of_idle rfl ((clearAll_profileKept s).flags (resetPart_inv s).net.flags)
  | assume m idle ok => exact startProxy_netInv net ok
  | rearm => exact .of_idle rfl ((rearmAll_profileKept s).flags net.flags)
  | reclaim m active =>
    have kept : ProfileKept s (takePortBack s) := (stopBlocks_profileKept s).trans (handbackIfClear_profileKept _)
    exact net.rest kept (handbackIfClear_passive rfl) (fun idle => absurd idle (not_idle_of_active active))
      (handbackIfClear_net _)
  | fetch m h rest report =>
    exact net.rest (.of_tables (by constructor <;> rfl) rfl rfl) (by simp [State.active, report]) id rfl
  | complete =>
    rcases handbackIfClear_cases s with ⟨handback, clear, -⟩ | ⟨-, e⟩
    · rw [inv.lifecycle.inFlight handback] at clear
      cases clear
    · rw [e]
      exact net
  | elapse active =>
    have aged : ProfileKept s { s with elapsed := satAdd32 s.elapsed 1 } := .of_tables (by constructor <;> rfl) rfl rfl
    exact net.work active (aged.trans (tickTimers_profileKept _)) ((net.workNet active).same rfl rfl rfl)
  | age handback =>
    exact net.rest (.of_tables (by constructor <;> rfl) rfl rfl) (by simp [State.active, handback]) id rfl
  | serve _ u busy serves =>
    obtain ⟨q, -, works⟩ := serves.works
    have taken : ProfileKept s { s with queue := q } := .of_tables (by constructor <;> rfl) rfl rfl
    have kept := (taken.trans works.profileKept).trans (startTransmit_profileKept u)
    rcases busy with active | handback
    · have before : WorkNet { s with queue := q } := (net.workNet active).same rfl rfl rfl
      exact net.work active kept ((works.workNet before).same (by simp) (by simp) (by simp))
    · refine net.rest kept (by rw [serves.active.1]; simp [State.active, handback]) (fun idle => ?_) ?_
      · rw [idle] at handback
        cases handback
      · rw [startTransmit_net, serves.of_handback handback]
  | lastResult r e rest handback =>
    have taken : ProfileKept s { s with queue := rest } := .of_tables (by constructor <;> rfl) rfl rfl
    have handed := handResult_of_handback (s := { s with queue := rest }) handback e.origin r
    have proxy : (handResult e.origin r { s with queue := rest }).proxy = s.proxy := (congrArg State.proxy handed :)
    have same : (handResult e.origin r { s with queue := rest }).net = s.net := (congrArg State.net handed :)
    refine net.rest ((taken.trans (handResult_works e.origin r).profileKept).trans (handbackIfClear_profileKept _))
      (handbackIfClear_passive (proxy.trans handback)) (fun idle => ?_) ((handbackIfClear_net _).trans same)
    rw [idle] at handback
    cases handback
  | link l passive => exact net.rest (.of_tables (by constructor <;> rfl) rfl rfl) passive id rfl
  | linkUp active change =>
    have set : ProfileKept s { s with linkState := .up } := .of_tables (by constructor <;> rfl) rfl rfl
    have work := linkUp_workNet (s := { s with linkState := .up }) ((net.link active).2 change) rfl
    exact net.work active ((set.trans (linkUp_profileKept _)).trans (startTransmit_profileKept _))
      (work.same (by simp) (by simp) (by simp))
  | linkDown active change =>
    have set : ProfileKept s { s with linkState := .down } := .of_tables (by constructor <;> rfl) rfl rfl
    have work := linkDown_workNet (s := { s with linkState := .down }) rfl
    exact net.work active ((set.trans (linkDown_profileKept _)).trans (startTransmit_profileKept _))
      (work.same (by simp) (by simp) (by simp))
  | tentative i active =>
    exact net.work active (updEntry_profileKept i (f := AddrEntry.expireTentative) (fun _ => rfl) s) ((net.workNet active).same rfl rfl rfl)
  | contest i active =>
    exact net.work active (updEntry_profileKept i (f := AddrEntry.expireContest) (fun _ => rfl) s) ((net.workNet active).same rfl rfl rfl)
  | window active =>
    obtain ⟨same, link, signature⟩ := endWindow_net s
    exact net.work active (endWindow_profileKept s) ((net.workNet active).same same link signature)
  | decay active =>
    exact net.work active (.of_tables (by constructor <;> rfl) rfl rfl) ((net.workNet active).same rfl rfl rfl)
  | settle active =>
    have stopped : ProfileKept s { s with settleTimer := none } := .of_tables (by constructor <;> rfl) rfl rfl
    exact net.work active (stopped.trans (evaluateAll_profileKept _))
      ((net.workNet active).same (by simp) (by simp) (by simp))
  | patience waking =>
    have active : s.active = true := by simp [State.active, waking]
    split
    · exact net.work active (.of_tables (by constructor <;> rfl) rfl rfl) ((net.workNet active).same rfl rfl rfl)
    · exact net.work active (.of_tables (by constructor <;> rfl) rfl rfl) ((net.workNet active).same rfl rfl rfl)
  | gap waking =>
    have active : s.active = true := by simp [State.active, waking]
    exact net.work active (.of_tables (by constructor <;> rfl) rfl rfl) ((net.workNet active).same rfl rfl rfl)

/-! ### The settled obligation -/

theorem LifecycleInv.onlyLink (link : OnlyLink s t) (h : LifecycleInv s) : LifecycleInv t := by
  rw [OnlyLink] at link
  rw [link]
  cases h
  constructor <;> assumption

theorem NetInv.onlyLink (link : OnlyLink s t) (h : NetInv s) : NetInv t := by
  rw [OnlyLink] at link
  rw [link]
  cases h
  constructor <;> assumption

/-- Settles O11: the lifecycle's facts by proxy state, the network state's by the primitive updates of an event. -/
theorem step_keeps_lifecycle_and_network : Obligations.Step_keeps_lifecycle_and_network := fun _ _ inv h =>
  step_keeps (P := fun s => LifecycleInv s ∧ NetInv s) (fun _ inv => ⟨inv.lifecycle, inv.net⟩)
    (fun _ _ link both => ⟨both.1.onlyLink link, both.2.onlyLink link⟩)
    (fun _ _ _ inv acts => ⟨acts.lifecycle inv, acts.netInv inv⟩) inv h

end Sys2Proof.Machine
end

section
/-! SUPPORT. The Load Governor, the Held Frame Queue and the counts over every step (O10). -/

namespace Sys2Proof.Machine

variable {s t u : State} {c : Instr}

/-! ### The Load Governor -/

/-- The Load Governor's bounds while the part is not in IDLE (R149, R155, R156). -/
structure GovWork (s : State) : Prop where
  low : ∃ k : Fin 9, s.curve.points[k] ≤ s.budget
  high : ∃ k : Fin 9, s.budget ≤ s.curve.points[k]
  spent : s.spent ≤ s.budget
  vote : s.stormVote ≤ 2
  vote_off : s.curve.stormLevel = 0 → s.stormVote = 0
  count : s.windowCount ≤ 65535

theorem GovernorInv.work (h : GovernorInv s) : GovWork s := by
  cases h
  constructor <;> assumption

theorem GovWork.governor (h : GovWork s) (working : s.proxy ≠ .idle) : GovernorInv s := by
  cases h
  constructor
  case at_rest => exact fun idle => absurd idle working
  all_goals assumption

theorem GovWork.same (h : GovWork s) (curve : t.curve = s.curve) (budget : t.budget = s.budget) (spent : t.spent = s.spent)
    (vote : t.stormVote = s.stormVote) (count : t.windowCount = s.windowCount) : GovWork t where
  low := by simpa only [curve, budget] using h.low
  high := by simpa only [curve, budget] using h.high
  spent := by rw [budget, spent]; exact h.spent
  vote := by rw [vote]; exact h.vote
  vote_off := by rw [curve, vote]; exact h.vote_off
  count := by rw [count]; exact h.count

/-- The budget at the curve's P0 with nothing spent, as Rearm, Detach and Assume leave it (R7, R15, R150). -/
theorem GovernorInv.of_fresh (budget : t.budget = t.curve.points[0]) (spent : t.spent = 0) (vote : t.stormVote = 0)
    (count : t.windowCount = 0) : GovernorInv t where
  low := ⟨0, budget.ge⟩
  high := ⟨0, budget.le⟩
  spent := by omega
  vote := by omega
  vote_off := fun _ => vote
  count := by omega
  at_rest := fun _ => ⟨count, spent, vote, budget⟩

theorem Touch.govWork (touch : Touch s t) (h : GovWork s) : GovWork t := by
  cases touch with
  | load =>
    obtain ⟨low, high, spent, vote, off, count⟩ := h
    exact ⟨low, high, spent, vote, off, Nat.min_le_right _ _⟩
  | spend _ within =>
    obtain ⟨low, high, spent, vote, off, count⟩ := h
    exact ⟨low, high, within, vote, off, count⟩
  | weight j w => exact h.same (by simp) (by simp) (by simp) (by simp) (by simp)
  | _ => exact h.same rfl rfl rfl rfl rfl

theorem Works.govWork (works : Works s t) (h : GovWork s) : GovWork t := works.keeps (P := GovWork) (fun _ _ => Touch.govWork) h

/-- The target lies between two points of the curve (R153, R155). -/
theorem Curve.target_between (c : Curve) (n : Nat) :
    (∃ k : Fin 9, c.points[k] ≤ c.target n) ∧ ∃ k : Fin 9, c.target n ≤ c.points[k] := by
  by_cases full : 256 ≤ n
  · rw [c.target_of_full full]
    exact ⟨⟨8, le_rfl⟩, ⟨8, le_rfl⟩⟩
  · have lower : n / 32 < 8 := by omega
    obtain ⟨k, hk⟩ : ∃ k : Fin 8, n / 32 = k.val := ⟨⟨n / 32, lower⟩, rfl⟩
    have small : n % 32 < 32 := Nat.mod_lt _ (by decide)
    obtain ⟨above, below, -⟩ := product_div_bounds ((c.points[k.val + 1] : Int) - c.points[k.val]) small
    have positive : 0 ≤ (c.points[k.val] : Int) +
        ((c.points[k.val + 1] : Int) - c.points[k.val]) * ((n % 32 : Nat) : Int) / 32 := by omega
    obtain ⟨t, ht⟩ := Int.eq_ofNat_of_zero_le positive
    rw [c.target_of_interpolation k hk ht.symm]
    obtain ⟨least, most, -⟩ := interpolation_bounds small ht.symm
    have first : c.points[(⟨k.val, by omega⟩ : Fin 9)] = c.points[k.val] := rfl
    have second : c.points[(⟨k.val + 1, by omega⟩ : Fin 9)] = c.points[k.val + 1] := rfl
    rcases Nat.le_total c.points[k.val] c.points[k.val + 1] with le | le
    · exact ⟨⟨⟨k.val, by omega⟩, by rw [first]; omega⟩, ⟨⟨k.val + 1, by omega⟩, by rw [second]; omega⟩⟩
    · exact ⟨⟨⟨k.val + 1, by omega⟩, by rw [second]; omega⟩, ⟨⟨k.val, by omega⟩, by rw [first]; omega⟩⟩

/-- The bounds of the governor but those of what is spent and counted in the window. -/
structure GovCurve (s : State) : Prop where
  low : ∃ k : Fin 9, s.curve.points[k] ≤ s.budget
  high : ∃ k : Fin 9, s.budget ≤ s.curve.points[k]
  vote : s.stormVote ≤ 2
  vote_off : s.curve.stormLevel = 0 → s.stormVote = 0

theorem budgeted_govCurve (h : GovWork s) : GovCurve (budgeted s) := by
  obtain ⟨⟨k, low⟩, ⟨l, high⟩, -, vote, off, -⟩ := h
  obtain ⟨⟨m, least⟩, ⟨n, most⟩⟩ := s.curve.target_between s.windowCount
  rcases moveBudget_cases s.budget (s.curve.target s.windowCount) s.curve.ramp with ⟨-, e⟩ | ⟨-, above, below⟩
  · exact ⟨⟨m, by simpa [budgeted, e] using least⟩, ⟨n, by simpa [budgeted, e] using most⟩, vote, off⟩
  · exact ⟨⟨k, low.trans above⟩, ⟨n, below.trans most⟩, vote, off⟩

theorem endWindow_govWork (h : GovWork s) : GovWork (endWindow s) := by
  obtain ⟨low, high, vote, off⟩ := budgeted_govCurve h
  obtain ⟨v, stats, small, stays, -, works⟩ := takeStormVote_works s.windowCount (budgeted s)
  have frame := works.sameFrame
  have fresh : GovCurve (takeStormVote s.windowCount (budgeted s)) := by
    have curve : (takeStormVote s.windowCount (budgeted s)).curve = (budgeted s).curve := frame.curve
    have budget : (takeStormVote s.windowCount (budgeted s)).budget = (budgeted s).budget := frame.budget
    have is : (takeStormVote s.windowCount (budgeted s)).stormVote = v := frame.stormVote
    refine ⟨?_, ?_, by omega, ?_⟩
    · simpa only [curve, budget] using low
    · simpa only [curve, budget] using high
    · rw [curve, is]
      exact fun level => (stays level).trans (off level)
  rw [endWindow_eq]
  exact ⟨fresh.low, fresh.high, Nat.zero_le _, fresh.vote, fresh.vote_off, Nat.zero_le _⟩

theorem Loads.governor (h : Loads s t) (inv : GovernorInv s) (idle : s.proxy = .idle) : GovernorInv t := by
  obtain ⟨count, spent, vote, budget⟩ := inv.at_rest idle
  cases h with
  | curve c => exact .of_fresh rfl spent vote count
  | _ => exact .of_fresh budget spent vote count

theorem opened_governor (s : State) : GovWork (opened s) :=
  (GovernorInv.of_fresh (t := opened s) (Curve.point_zero _) rfl rfl rfl).work

end Sys2Proof.Machine
end

section
/-! SUPPORT. The Held Frame Queue, the counts and the replies over every step; with the Load Governor, obligation O10. -/

namespace Sys2Proof.Machine

variable {s t u : State} {c : Instr}

/-! ### The Held Frame Queue -/

/-- The Held Frame Queue's limits and order (R178, R180). -/
structure HeldWork (s : State) : Prop where
  records : s.held.length ≤ 4
  bytes : heldBytes s ≤ 6144
  lengths : ∀ h ∈ s.held, 14 ≤ h.frame.length ∧ h.frame.length ≤ 1522
  order : s.held.Pairwise fun a b => a.time ≤ b.time
  times : ∀ h ∈ s.held, h.time ≤ s.elapsed

theorem HeldInv.work (h : HeldInv s) : HeldWork s := by
  cases h
  constructor <;> assumption

theorem HeldWork.inv (h : HeldWork s) (rest : s.proxy = .idle → s.held = []) : HeldInv s := by
  cases h
  constructor <;> assumption

theorem HeldWork.same (h : HeldWork s) (held : t.held = s.held) (elapsed : s.elapsed ≤ t.elapsed) : HeldWork t where
  records := by rw [held]; exact h.records
  bytes := by rw [heldBytes, held]; exact h.bytes
  lengths := by rw [held]; exact h.lengths
  order := by rw [held]; exact h.order
  times := by rw [held]; exact fun x hx => (h.times x hx).trans elapsed

theorem HeldWork.of_nil (held : t.held = []) : HeldWork t := by
  constructor <;> simp [heldBytes, held]

theorem HeldWork.push (h : HeldWork s) {i : Fin 32} {f : Frame} (size : 14 ≤ f.length ∧ f.length ≤ 1522)
    (room : s.held.length < 4 ∧ heldBytes s + f.length ≤ 6144) :
    HeldWork { s with held := s.held ++ [{ time := s.elapsed, rule := i, frame := f }] } where
  records := by simpa using room.1
  bytes := by
    simp only [heldBytes] at room ⊢
    simpa using room.2
  lengths := by
    intro x hx
    rcases List.mem_append.1 hx with old | new
    · exact h.lengths x old
    · rw [List.mem_singleton] at new
      rw [new]
      exact size
  order := by
    refine List.pairwise_append.2 ⟨h.order, List.pairwise_singleton _ _, fun a ha b hb => ?_⟩
    rw [List.mem_singleton] at hb
    rw [hb]
    exact h.times a ha
  times := by
    intro x hx
    rcases List.mem_append.1 hx with old | new
    · exact h.times x old
    · rw [List.mem_singleton] at new
      rw [new]

theorem HeldWork.tail (h : HeldWork s) {x : HeldFrame} {rest : List HeldFrame} (held : s.held = x :: rest) :
    HeldWork { s with held := rest } := by
  obtain ⟨records, bytes, lengths, order, times⟩ := h
  rw [heldBytes] at bytes
  rw [held] at records bytes lengths order times
  simp only [List.length_cons, List.map_cons, List.sum_cons] at records bytes
  refine ⟨by dsimp only; omega, ?_, fun y hy => lengths y (List.mem_cons_of_mem x hy), (List.pairwise_cons.1 order).2,
    fun y hy => times y (List.mem_cons_of_mem x hy)⟩
  simp only [heldBytes]
  omega

/-! ### The counts -/

theorem StatsInv.same (h : StatsInv s) (matchCounts : t.matchCounts = s.matchCounts) (stats : t.stats = s.stats)
    (elapsed : t.elapsed = s.elapsed) : StatsInv t where
  matches_le := by rw [matchCounts]; exact h.matches_le
  stats := by rw [stats]; exact h.stats
  stages := by rw [stats]; exact h.stages
  elapsed_le := by rw [elapsed]; exact h.elapsed_le

theorem StatsInv.raise (h : StatsInv s) (raises : s.stats.Raises t.stats) (matchCounts : t.matchCounts = s.matchCounts)
    (elapsed : t.elapsed = s.elapsed) : StatsInv t where
  matches_le := by rw [matchCounts]; exact h.matches_le
  stats := raises.inRange h.stats
  stages := raises.stages h.stages
  elapsed_le := by rw [elapsed]; exact h.elapsed_le

/-- Every count at 0 (R7, R15). -/
theorem StatsInv.of_zero (matchCounts : t.matchCounts = Vector.replicate 32 0) (stats : t.stats = Stats.zero)
    (elapsed : t.elapsed ≤ 4294967295) : StatsInv t where
  matches_le := by simp [matchCounts]
  stats := by rw [stats]; exact Stats.zero_inRange
  stages := by rw [stats]; exact fun _ => Nat.zero_le _
  elapsed_le := elapsed

theorem dropQueued_raises (s : State) : s.stats.Raises (dropQueued s).stats :=
  ⟨fun r => by cases r; constructor <;> simp [dropQueued, satAdd32_le, *], id⟩

/-- A link-state record outside PROXY and WAKING (R96). -/
theorem GovernorInv.link (h : GovernorInv s) (l : LinkRecord) : GovernorInv { s with linkState := linkOfRecord l } := by
  cases h
  constructor <;> assumption

theorem HeldInv.link (h : HeldInv s) (l : LinkRecord) : HeldInv { s with linkState := linkOfRecord l } := by
  cases h
  constructor <;> assumption

/-! ### All three within an event -/

/-- The bounds of the governor, the held frames and the counts, while the part is not in IDLE. -/
structure Measured (s : State) : Prop where
  governor : GovWork s
  held : HeldWork s
  stats : StatsInv s

/-- The bounds of the governor, the held frames and the counts. -/
def MeasuredInv (s : State) : Prop := GovernorInv s ∧ HeldInv s ∧ StatsInv s

theorem Measured.inv (h : Measured s) (working : s.proxy ≠ .idle) : MeasuredInv s :=
  ⟨h.governor.governor working, h.held.inv fun idle => absurd idle working, h.stats⟩

theorem Inv.measured (h : Inv s) : Measured s := ⟨h.governor.work, h.held.work, h.stats⟩

/-- A change outside what is measured. -/
structure SameMeasure (s t : State) : Prop where
  curve : t.curve = s.curve
  budget : t.budget = s.budget
  spent : t.spent = s.spent
  stormVote : t.stormVote = s.stormVote
  windowCount : t.windowCount = s.windowCount
  held : t.held = s.held
  matchCounts : t.matchCounts = s.matchCounts
  stats : t.stats = s.stats
  elapsed : t.elapsed = s.elapsed

theorem Measured.same (h : Measured s) (k : SameMeasure s t) : Measured t :=
  ⟨h.governor.same k.curve k.budget k.spent k.stormVote k.windowCount, h.held.same k.held k.elapsed.ge,
    h.stats.same k.matchCounts k.stats k.elapsed⟩

theorem Measured.aged (h : Measured s) : Measured { s with elapsed := satAdd32 s.elapsed 1 } :=
  ⟨h.governor.same rfl rfl rfl rfl rfl, h.held.same rfl (satAdd32_ge h.stats.elapsed_le),
    ⟨h.stats.matches_le, h.stats.stats, h.stats.stages, satAdd32_le _ _⟩⟩

theorem Measured.dropQueued (h : Measured s) : Measured (dropQueued s) :=
  ⟨h.governor.same rfl rfl rfl rfl rfl, h.held.same rfl le_rfl, h.stats.raise (dropQueued_raises s) rfl rfl⟩

theorem Touch.measured (touch : Touch s t) (h : Measured s) : Measured t := by
  have governor := touch.govWork h.governor
  cases touch with
  | weight j w => exact h.same (by constructor <;> simp)
  | hold i f _ size room => exact ⟨governor, h.held.push size room, h.stats.same rfl rfl rfl⟩
  | matched i =>
    refine ⟨governor, h.held.same rfl le_rfl, ⟨?_, h.stats.stats, h.stats.stages, h.stats.elapsed_le⟩⟩
    exact set_forall (P := fun n : Nat => n ≤ 4294967295) h.stats.matches_le i (satAdd32_le _ _)
  | stats f _ raises => exact ⟨governor, h.held.same rfl le_rfl, h.stats.raise raises rfl rfl⟩
  | load => exact ⟨governor, h.held.same rfl le_rfl, h.stats.same rfl rfl rfl⟩
  | spend => exact ⟨governor, h.held.same rfl le_rfl, h.stats.same rfl rfl rfl⟩
  | _ => exact h.same (by constructor <;> rfl)

theorem Works.measured (works : Works s t) (h : Measured s) : Measured t :=
  works.keeps (P := Measured) (fun _ _ => Touch.measured) h

theorem startTransmit_measured (h : Measured s) : Measured (startTransmit s) := h.same (by constructor <;> simp)

theorem handbackIfClear_measured (h : Measured s) : Measured (handbackIfClear s) := by
  rcases handbackIfClear_cases s with ⟨-, -, e⟩ | ⟨-, e⟩ <;> rw [e]
  · exact h.same (by constructor <;> rfl)
  · exact h

theorem linkUp_measured (h : Measured s) : Measured (linkUp s) := by
  by_cases down : s.net = .linkDown
  · rcases linkUp_works down with ⟨-, works⟩ | ⟨-, works⟩
    · exact works.measured (h.same (by constructor <;> rfl))
    · exact works.measured (h.same (by constructor <;> rfl))
  · rw [linkUp_of_up down]
    exact h

theorem linkDown_measured (h : Measured s) : Measured (linkDown s) := by
  by_cases down : s.net = .linkDown
  · rw [linkDown_of_down down]
    exact h
  · exact (linkDown_works down).measured (Measured.dropQueued (h.same (by constructor <;> rfl)))

theorem stopBlocks_measured (h : Measured s) : Measured (stopBlocks s) :=
  h.dropQueued.same (by constructor <;> rfl)

theorem takeStormVote_counts (n : Nat) (s : State) :
    (takeStormVote n s).held = s.held ∧ (takeStormVote n s).elapsed = s.elapsed ∧
      (takeStormVote n s).matchCounts = s.matchCounts ∧ s.stats.Raises (takeStormVote n s).stats := by
  have raises := Stats.raises_of_satAdd (fun c => { c with stormWindows := satAdd32 c.stormWindows 1 }) (by simp) s.stats
  rcases takeStormVote_cases n s with ⟨-, e⟩ | ⟨-, -, e⟩ | ⟨-, -, -, e⟩ | ⟨-, -, -, e⟩ <;> rw [e]
  · exact ⟨rfl, rfl, rfl, id, id⟩
  · exact ⟨rfl, rfl, rfl, id, id⟩
  · exact ⟨rfl, rfl, rfl, raises⟩
  · exact ⟨by simp, by simp, by simp, by simpa using raises⟩

theorem endWindow_measured (h : Measured s) : Measured (endWindow s) := by
  obtain ⟨held, elapsed, matchCounts, raises⟩ := takeStormVote_counts s.windowCount (budgeted s)
  exact ⟨endWindow_govWork h.governor, h.held.same held elapsed.ge, h.stats.raise raises matchCounts elapsed⟩

theorem opened_measured (h : s.held = []) : Measured (opened s) :=
  ⟨opened_governor s, .of_nil h, .of_zero rfl rfl (Nat.zero_le _)⟩

theorem startProxy_measured (h : s.held = []) : Measured (startProxy s) := by
  rw [startProxy_eq]
  exact startTransmit_measured ((expired_works s).measured (opened_measured h))

theorem Loads.held (h : Loads s t) : t.held = s.held := by cases h <;> rfl

theorem Loads.stats (h : Loads s t) (inv : StatsInv s) : StatsInv t := by
  cases h with
  | rule i r next =>
    refine ⟨?_, inv.stats, inv.stages, inv.elapsed_le⟩
    exact set_forall (P := fun n : Nat => n ≤ 4294967295) inv.matches_le i (Nat.zero_le _)
  | _ => exact inv.same rfl rfl rfl

/-- Rearm and Detach leave the bounds of IDLE. -/
theorem rearmed_measured (inv : StatsInv s) (e : t = { rearmAll s with
      station := t.station, entries := t.entries, groups := t.groups, rules := t.rules, pool := t.pool,
      patchLists := t.patchLists, duties := t.duties, signature := t.signature, curve := t.curve,
      laneSettings := t.laneSettings, budget := t.budget }) (budget : t.budget = t.curve.points[0]) : MeasuredInv t := by
  have spent : t.spent = 0 := (congrArg State.spent e :)
  have vote : t.stormVote = 0 := (congrArg State.stormVote e :)
  have count : t.windowCount = 0 := (congrArg State.windowCount e :)
  have held : t.held = [] := (congrArg State.held e :)
  have matches_ : t.matchCounts = Vector.replicate 32 0 := (congrArg State.matchCounts e :)
  have stats : t.stats = Stats.zero := (congrArg State.stats e :)
  have elapsed : t.elapsed = s.elapsed := (congrArg State.elapsed e :)
  exact ⟨.of_fresh budget spent vote count, (HeldWork.of_nil held).inv fun _ => held,
    .of_zero matches_ stats (elapsed ▸ inv.elapsed_le)⟩

theorem startProxy_working (s : State) : (startProxy s).proxy ≠ .idle := by
  rw [(startProxy_moves s).1]
  exact nofun

theorem handbackIfClear_not_idle (handback : s.proxy = .handback) : (handbackIfClear s).proxy ≠ .idle := by
  rcases handbackIfClear_proxy s with e | e <;> rw [e]
  · rw [handback]
    exact nofun
  · exact nofun

theorem Acts.measuredInv (h : Acts s c t) (inv : Inv s) : MeasuredInv t := by
  have before := inv.measured
  cases h with
  | still => exact ⟨inv.governor, inv.held, inv.stats⟩
  | reset => exact ⟨(resetPart_inv s).governor, (resetPart_inv s).held, (resetPart_inv s).stats⟩
  | load _ _ idle loads =>
    have held : t.held = [] := loads.held.trans (inv.held.at_rest idle)
    exact ⟨loads.governor inv.governor idle, (HeldWork.of_nil held).inv fun _ => held, loads.stats inv.stats⟩
  | clear => exact rearmed_measured inv.stats rfl rfl
  | detach => exact rearmed_measured inv.stats rfl rfl
  | rearm => exact rearmed_measured inv.stats rfl (Curve.point_zero _)
  | assume m idle => exact (startProxy_measured (inv.held.at_rest idle)).inv (startProxy_working s)
  | reclaim m active =>
    exact (handbackIfClear_measured (stopBlocks_measured before)).inv (handbackIfClear_not_idle rfl)
  | fetch m x rest report held =>
    exact Measured.inv (s := { s with held := rest })
      ⟨before.governor.same rfl rfl rfl rfl rfl, before.held.tail held, before.stats.same rfl rfl rfl⟩ (by simp [report])
  | complete =>
    rcases handbackIfClear_cases s with ⟨handback, clear, -⟩ | ⟨-, e⟩
    · rw [inv.lifecycle.inFlight handback] at clear
      cases clear
    · rw [e]
      exact ⟨inv.governor, inv.held, inv.stats⟩
  | elapse active => exact (before.aged.same (by constructor <;> rfl)).inv (not_idle_of_active active)
  | age handback => exact before.aged.inv (by simp [handback])
  | serve _ u busy serves =>
    obtain ⟨q, -, works⟩ := serves.works
    have after := startTransmit_measured (works.measured (before.same (by constructor <;> rfl)))
    refine after.inv ?_
    rcases busy with active | handback
    · exact not_idle_of_active (serves.active.1.trans active)
    · rw [startTransmit_proxy, serves.of_handback handback]
      simp [handback]
  | lastResult r e rest handback =>
    have handed := (handResult_works e.origin r (s := { s with queue := rest })).measured (before.same (by constructor <;> rfl))
    have proxy : (handResult e.origin r { s with queue := rest }).proxy = s.proxy :=
      (congrArg State.proxy (handResult_of_handback (s := { s with queue := rest }) handback e.origin r) :)
    exact (handbackIfClear_measured handed).inv (handbackIfClear_not_idle (proxy.trans handback))
  | link l passive =>
    exact ⟨inv.governor.link l, inv.held.link l, inv.stats.same rfl rfl rfl⟩
  | linkUp active =>
    refine (startTransmit_measured (linkUp_measured (before.same (by constructor <;> rfl)))).inv ?_
    exact not_idle_of_active (by rw [startTransmit_active, (linkUp_frame _).1]; exact active)
  | linkDown active =>
    refine (startTransmit_measured (linkDown_measured (before.same (by constructor <;> rfl)))).inv ?_
    exact not_idle_of_active (by rw [startTransmit_active, (linkDown_frame _).1]; exact active)
  | tentative i active => exact (before.same (by constructor <;> rfl)).inv (not_idle_of_active active)
  | contest i active => exact (before.same (by constructor <;> rfl)).inv (not_idle_of_active active)
  | window active => exact (endWindow_measured before).inv (not_idle_of_active ((endWindow_frame s).1.trans active))
  | decay active => exact (before.same (by constructor <;> rfl)).inv (not_idle_of_active active)
  | settle active =>
    exact (before.same (by constructor <;> simp)).inv (not_idle_of_active (by rw [evaluateAll_active]; exact active))
  | patience waking =>
    split
    · exact (before.same (by constructor <;> rfl)).inv (by simp [waking])
    · exact (before.same (by constructor <;> rfl)).inv (by simp [waking])
  | gap waking => exact (before.same (by constructor <;> rfl)).inv (by simp [waking])

end Sys2Proof.Machine
end

section
/-! SUPPORT. The replies over every step, and obligation O10. -/

namespace Sys2Proof.Machine

variable {s t u : State} {c : Instr} {k : RequestKind}

/-! ### What an event does to the reply slot -/

theorem Loads.reply (h : Loads s t) : t.reply = s.reply := by cases h <;> rfl

theorem handbackIfClear_reply (s : State) : (handbackIfClear s).reply = s.reply := by
  rcases handbackIfClear_cases s with ⟨-, -, e⟩ | ⟨-, e⟩ <;> rw [e]
  rfl

/-- No work fills the reply slot; a reset empties it (R19). -/
theorem Acts.reply (h : Acts s c t) : t.reply = s.reply ∨ t.reply = none := by
  cases h with
  | reset => exact .inr rfl
  | load _ _ idle loads => exact .inl loads.reply
  | assume =>
    rw [startProxy_eq, startTransmit_reply]
    exact .inl (expired_works s).sameFrame.reply
  | reclaim => exact .inl (handbackIfClear_reply _)
  | complete => exact .inl (handbackIfClear_reply s)
  | serve _ u busy serves =>
    obtain ⟨q, -, works⟩ := serves.works
    rw [startTransmit_reply]
    exact .inl works.sameFrame.reply
  | lastResult r e rest =>
    rw [handbackIfClear_reply]
    exact .inl (handResult_works e.origin r).sameFrame.reply
  | linkUp =>
    rw [startTransmit_reply]
    exact .inl (congrArg State.reply (linkUp_onlyNet { s with linkState := .up }) :)
  | linkDown =>
    rw [startTransmit_reply]
    exact .inl (congrArg State.reply (linkDown_onlyNet { s with linkState := .down }) :)
  | window =>
    obtain ⟨v, stats, -, -, -, works⟩ := takeStormVote_works s.windowCount (budgeted s)
    rw [endWindow_eq]
    exact .inl works.sameFrame.reply
  | settle => exact .inl (evaluateAll_reply _)
  | patience => split <;> exact .inl rfl
  | _ => exact .inl rfl

/-! ### What a request answers -/

theorem ReplyInv.of_none (h : t.reply = none) : ReplyInv t := by
  intro r hr
  rw [h] at hr
  cases hr

theorem ReplyInv.same (h : ReplyInv s) (e : t.reply = s.reply) : ReplyInv t := by
  intro r hr
  rw [e] at hr
  exact h r hr

theorem ReplyInv.of_body {r : Reply} (h : t.reply = some r) (short : r.body.length ≤ 1530) : ReplyInv t := by
  intro x hx
  rw [h, Option.mem_def, Option.some.injEq] at hx
  rw [← hx, length_encode_reply]
  omega

/-- The body a verdict puts into the reply fits a READ of 1,537 bytes with its head (R197); a silent verdict empties the slot. -/
def Verdict.Fits : Verdict → Prop
  | .performed _ _ body => body.length ≤ 1530
  | .refused _ body => body.length ≤ 1530
  | .silent t => t.reply = none

theorem verdictOf_fits {α : Type} {r : Except Status α} {b : List Byte} {f : α → Verdict} (hb : b.length ≤ 1530)
    (h : ∀ a, (f a).Fits) : (verdictOf r b f).Fits := by
  cases r with
  | error st => exact hb
  | ok a => exact h a

theorem examine_fits {m : Request} (refusal : (k.refusalBody s).length ≤ 1530) (h : ∀ b, (k.perform b s).Fits) :
    (examine k m s).Fits := by
  unfold examine
  split
  · exact refusal
  · split
    · exact refusal
    · split
      · exact refusal
      · exact h _

theorem settle_replyInv {kind tag : Byte} {v : Verdict} (h : v.Fits) : ReplyInv (settle kind tag v s) := by
  cases v with
  | performed t clamped body => exact .of_body rfl h
  | refused st body => exact .of_body rfl h
  | silent t => exact .of_none h

theorem takeRequest_replyInv {m : Request} (inv : ReplyInv s) (refusal : (k.refusalBody s).length ≤ 1530)
    (h : ∀ b, (k.perform b s).Fits) : ReplyInv (takeRequest k m s) := by
  rcases takeRequest_cases k m s with ⟨-, e⟩ | ⟨-, r, hr, e⟩ | ⟨-, -, e⟩ <;> rw [e]
  · exact inv
  · refine .of_body rfl ?_
    have short := inv r hr
    rw [length_encode_reply] at short
    exact Nat.le_of_add_le_add_left short
  · exact settle_replyInv (examine_fits refusal h)

theorem request_replyInv {m : Request} (e : Host.Outcome.next (takeRequest k m s) = (.next t : Host.Outcome State Fault Refusal))
    (inv : ReplyInv s) (refusal : (k.refusalBody s).length ≤ 1530) (h : ∀ b, (k.perform b s).Fits) : ReplyInv t := by
  rw [Host.Outcome.next.injEq] at e
  rw [← e]
  exact takeRequest_replyInv inv refusal h

theorem judgeAssume_fits (s : State) : (judgeAssume s).Fits := by
  cases check : profileCheck s with
  | none => rw [judgeAssume_of_ok check]; exact (by decide : 1 ≤ 1530)
  | some offence => rw [judgeAssume_of_offence check]; exact (by decide : 2 ≤ 1530)

theorem HeldFrame.encode_length (h : HeldFrame) (left : Nat) : (h.encode left).length = 8 + h.frame.length := by
  simp [HeldFrame.encode]
  omega

theorem judgeHeld_fits (held : HeldInv s) : (judgeHeld s).Fits := by
  cases queue : s.held with
  | nil => rw [judgeHeld_of_nil queue]; exact (by decide : 0 ≤ 1530)
  | cons h rest =>
    rw [judgeHeld_of_cons queue]
    have size := (held.lengths h (by simp [queue])).2
    change (h.encode rest.length).length ≤ 1530
    rw [HeldFrame.encode_length]
    omega

theorem freeBytesBody_length (s : State) : (freeBytesBody s).length = 2 := bytesOfNat_length 2 _

theorem report_body_length (s : State) : (s.report.elim [] WakeReport.encode).length ≤ 1530 := by
  cases s.report with
  | none => exact Nat.zero_le _
  | some r =>
    have length : r.encode.length = 646 := by
      rw [encodeReport_eq, List.length_flatten, reportPieces_lengths]
      rfl
    exact length.le.trans (by decide)

theorem status_body_length (s : State) : (encodeStatus s).length ≤ 1530 := by
  have length : (encodeStatus s).length = 29 := by
    rw [encodeStatus_eq, List.length_flatten, statusPieces_lengths]
    rfl
  exact length.le.trans (by decide)

/-- An empty body fits. -/
theorem noBody_fits (s : State) : (noBody s).length ≤ 1530 := Nat.zero_le _

theorem performed_empty_fits (t : State) (clamped : Bool) : (Verdict.performed t clamped []).Fits := Nat.zero_le _

theorem putTemplate_fits (b : List Byte) (s : State) :
    (verdictOf (parseTemplate b) (freeBytesBody s) fun (id, bytes) =>
      if (template? s id).isSome then .refused .duplicate (freeBytesBody s)
      else if freePoolBytes s < bytes.length then .refused .noSpace (freeBytesBody s)
      else
        let loaded := { s with pool := s.pool ++ [(id, bytes)] }
        .performed loaded false (freeBytesBody loaded)).Fits := by
  have short : ∀ x : State, (freeBytesBody x).length ≤ 1530 := fun x => (freeBytesBody_length x).le.trans (by decide)
  refine verdictOf_fits (short s) fun a => ?_
  dsimp only
  split
  · exact short s
  · split
    · exact short s
    · exact short _

theorem putAddress_fits (b : List Byte) (s : State) :
    (verdictOf (parseAddress b) [] fun (i, entry, clamped) =>
      if entry.any fun e => duplicateValue s i e.value then .refused .duplicate []
      else .performed { s with entries := s.entries.set i entry } clamped []).Fits := by
  refine verdictOf_fits (Nat.zero_le _) fun a => ?_
  dsimp only
  split
  · exact Nat.zero_le _
  · exact Nat.zero_le _

theorem readMessage_replyInv (n : Nat) (inv : ReplyInv s) : ReplyInv (readMessage n s) := by
  cases hr : s.reply with
  | some r =>
    rw [readMessage_of_reply hr]
    intro x hx
    dsimp only at hx
    split at hx
    · cases hx
    · exact inv x (by rw [hr]; exact hx)
  | none =>
    refine .of_none ?_
    cases hq : s.readyPending with
    | true =>
      rw [readMessage_of_ready hr hq]
      exact hr
    | false =>
      cases hd : s.handbackDonePending with
      | true =>
        rw [readMessage_of_handbackDone hr hq hd]
        exact hr
      | false =>
        rw [readMessage_of_none hr hq hd]
        exact hr

/-- Every command's reply fits a READ of 1,537 bytes (R197). -/
theorem exec_replyInv (inv : Inv s) (h : exec c s = .next t) : ReplyInv t := by
  have before := inv.reply
  have none_fits := noBody_fits s
  have silent := performed_empty_fits
  cases c with
  | read n =>
    rw [exec_read, Host.Outcome.next.injEq] at h
    rw [← h]
    exact readMessage_replyInv n before
  | unknownKindRequest kind m => exact request_replyInv h before none_fits (fun _ => Nat.zero_le _)
  | setStation m => exact request_replyInv h before none_fits (fun _ => silent _ _)
  | putAddress m => exact request_replyInv h before none_fits (fun b => putAddress_fits b s)
  | putGroup m => exact request_replyInv h before none_fits (fun _ => verdictOf_fits (Nat.zero_le _) fun _ => silent _ _)
  | putRule m => exact request_replyInv h before none_fits (fun _ => verdictOf_fits (Nat.zero_le _) fun _ => silent _ _)
  | putTemplate m =>
    exact request_replyInv h before ((freeBytesBody_length s).le.trans (by decide)) (fun b => putTemplate_fits b s)
  | putPatchList m => exact request_replyInv h before none_fits (fun _ => verdictOf_fits (Nat.zero_le _) fun _ => silent _ _)
  | putDuty m => exact request_replyInv h before none_fits (fun _ => verdictOf_fits (Nat.zero_le _) fun _ => silent _ _)
  | setLanes m => exact request_replyInv h before none_fits (fun _ => verdictOf_fits (Nat.zero_le _) fun _ => silent _ _)
  | setCurve m => exact request_replyInv h before none_fits (fun _ => (by decide : 1 ≤ 1530))
  | setSignature m => exact request_replyInv h before none_fits (fun _ => verdictOf_fits (Nat.zero_le _) fun _ => silent _ _)
  | clearProfile m => exact request_replyInv h before none_fits (fun _ => silent _ _)
  | assume m => exact request_replyInv (k := assumeKind) h before none_fits (fun _ => judgeAssume_fits s)
  | reclaim m => exact request_replyInv h before none_fits (fun _ => silent _ _)
  | readReport m => exact request_replyInv h before none_fits (fun _ => report_body_length s)
  | fetchHeld m => exact request_replyInv (k := fetchKind) h before none_fits (fun _ => judgeHeld_fits inv.held)
  | rearm m => exact request_replyInv h before none_fits (fun _ => silent _ _)
  | detach m => exact request_replyInv h before none_fits (fun _ => silent _ _)
  | queryStatus m => exact request_replyInv h before none_fits (fun _ => status_body_length s)
  | resetPart m => exact request_replyInv h before none_fits (fun _ => rfl)
  | _ =>
    rcases (exec_event_acts rfl h).reply with same | none
    · exact before.same same
    · exact .of_none none

/-! ### The settled obligation -/

theorem MeasuredInv.onlyLink (link : OnlyLink s t) (h : MeasuredInv s) : MeasuredInv t := by
  obtain ⟨governor, held, stats⟩ := h
  rw [OnlyLink] at link
  rw [link]
  refine ⟨?_, ?_, ?_⟩
  · cases governor
    constructor <;> assumption
  · cases held
    constructor <;> assumption
  · cases stats
    constructor <;> assumption

theorem step_keeps_replies (inv : Inv s) (h : step s = .next t) : ReplyInv t := by
  rcases step_runs inv h with rfl | ⟨c, s', inv', e⟩
  · exact inv.reply
  · exact exec_replyInv inv' e

/-- Settles O10: the governor, the held frames and the counts by the primitive updates of an event, the replies by kind. -/
theorem step_keeps_the_governor_held_frames_and_counts : Obligations.Step_keeps_the_governor_held_frames_and_counts := by
  intro s t inv h
  obtain ⟨governor, held, stats⟩ := step_keeps (P := MeasuredInv) (fun _ inv => ⟨inv.governor, inv.held, inv.stats⟩)
    (fun _ _ => MeasuredInv.onlyLink) (fun _ _ _ inv acts => acts.measuredInv inv) inv h
  exact ⟨governor, held, stats, step_keeps_replies inv h⟩

end Sys2Proof.Machine
end

section
/-! SUPPORT. The Address Table and the timers' rule over every step (O9). -/

namespace Sys2Proof.Machine

variable {s t u : State} {c : Instr}

/-! ### The entries of the Address Table -/

/-- Every entry in use has a property. -/
def EveryEntry (P : AddrEntry → Prop) (s : State) : Prop := ∀ i : Fin 16, ∀ e ∈ s.entries[i], P e

/-- An entry's conflict count and state against what was loaded (R46, R54). -/
structure AddrEntry.Sound (e : AddrEntry) : Prop where
  count : e.conflicts ≤ 255
  tentative : e.state = .tentative → e.loaded = .tentative

/-- An entry while the part proxies: sound, each timer running exactly in its state (R50, R52). -/
structure AddrEntry.Live (e : AddrEntry) : Prop where
  sound : e.Sound
  tentative : e.tentativeTimer.isSome = true ↔ e.state = .tentative
  contest : e.contestTimer.isSome = true ↔ e.state = .contested

/-- An entry in IDLE: at its loaded state, with no conflict record and no timer (R15, R49). -/
structure AddrEntry.Rests (e : AddrEntry) : Prop where
  state : e.state = match e.loaded with | .tentative => .tentative | .defended => .defended
  count : e.conflicts = 0
  claimant : e.lastClaimant = none

/-- No value twice (R46). -/
def DistinctValues (s : State) : Prop :=
  ∀ i j : Fin 16, i ≠ j → ∀ a ∈ s.entries[i], ∀ b ∈ s.entries[j], a.value ≠ b.value

theorem AddrEntry.Rests.sound {e : AddrEntry} (h : e.Rests) : e.Sound where
  count := by rw [h.count]; exact Nat.zero_le _
  tentative := by
    rw [h.state]
    cases e.loaded <;> simp

theorem EveryEntry.same {P : AddrEntry → Prop} (h : EveryEntry P s) (entries : t.entries = s.entries) : EveryEntry P t := by
  rw [EveryEntry, entries]
  exact h

theorem EveryEntry.map {P Q : AddrEntry → Prop} {f : AddrEntry → AddrEntry} (h : EveryEntry P s) (hf : ∀ e, P e → Q (f e))
    (entries : t.entries = mapTable (fun e => e.map f) s.entries) : EveryEntry Q t := by
  intro i e he
  rw [entries, getElem_mapTable, Option.mem_def, Option.map_eq_some_iff] at he
  obtain ⟨a, ha, rfl⟩ := he
  exact hf a (h i a ha)

theorem EveryEntry.update {P : AddrEntry → Prop} {f : AddrEntry → AddrEntry} (h : EveryEntry P s) (i : Fin 16)
    (hf : ∀ e ∈ s.entries[i], P e → P (f e)) : EveryEntry P (updEntry i f s) :=
  set_forall (P := fun x : Option AddrEntry => ∀ e ∈ x, P e) h i fun e he => by
    rw [Option.mem_def, Option.map_eq_some_iff] at he
    obtain ⟨a, ha, rfl⟩ := he
    exact hf a ha (h i a ha)

theorem EntryInv.sound (h : EntryInv s) : EveryEntry AddrEntry.Sound s := fun i e he =>
  ⟨h.counts i e he, h.tentative i e he⟩

theorem EntryInv.live (h : EntryInv s) (active : s.active = true) : EveryEntry AddrEntry.Live s := fun i e he =>
  ⟨h.sound i e he, (h.timers active i e he).1, (h.timers active i e he).2⟩

theorem EntryInv.rests (h : EntryInv s) (idle : s.proxy = .idle) : EveryEntry AddrEntry.Rests s := by
  intro i e he
  obtain ⟨tentative, defended, count, claimant⟩ := h.at_rest idle i e he
  refine ⟨?_, count, claimant⟩
  cases hl : e.loaded with
  | tentative => exact tentative.2 hl
  | defended => exact defended.2 hl

theorem EntryInv.of_live (distinct : DistinctValues t) (active : t.active = true) (live : EveryEntry AddrEntry.Live t) :
    EntryInv t where
  distinct := distinct
  counts := fun i e he => (live i e he).sound.count
  tentative := fun i e he => (live i e he).sound.tentative
  timers := fun _ i e he => ⟨(live i e he).tentative, (live i e he).contest⟩
  at_rest := fun idle => absurd idle (not_idle_of_active active)

theorem EntryInv.of_rests (distinct : DistinctValues t) (passive : t.active = false) (rests : EveryEntry AddrEntry.Rests t) :
    EntryInv t where
  distinct := distinct
  counts := fun i e he => (rests i e he).sound.count
  tentative := fun i e he => (rests i e he).sound.tentative
  timers := fun active => absurd (active.symm.trans passive) nofun
  at_rest := fun _ i e he => by
    obtain ⟨state, count, claimant⟩ := rests i e he
    rw [state, count, claimant]
    cases e.loaded <;> simp

/-- Entries between the Reclaim and the return to IDLE. -/
theorem EntryInv.of_sound (distinct : DistinctValues t) (passive : t.active = false) (working : t.proxy ≠ .idle)
    (sound : EveryEntry AddrEntry.Sound t) : EntryInv t where
  distinct := distinct
  counts := fun i e he => (sound i e he).count
  tentative := fun i e he => (sound i e he).tentative
  timers := fun active => absurd (active.symm.trans passive) nofun
  at_rest := fun idle => absurd idle working

/-- The entries left alone in the same phase. -/
theorem EntryInv.same (h : EntryInv s) (entries : t.entries = s.entries) (active : t.active = true → s.active = true)
    (idle : t.proxy = .idle → s.proxy = .idle) : EntryInv t where
  distinct := by rw [entries]; exact h.distinct
  counts := by rw [entries]; exact h.counts
  tentative := by rw [entries]; exact h.tentative
  timers := fun on => by rw [entries]; exact h.timers (active on)
  at_rest := fun at_ => by rw [entries]; exact h.at_rest (idle at_)

/-! ### Values are distinct -/

theorem ProfileKept.distinct (k : ProfileKept s t) (h : DistinctValues s) : DistinctValues t := by
  have before : ∀ i : Fin 16, ∀ e ∈ t.entries[i], ∃ a ∈ s.entries[i], a.value = e.value := by
    intro i e he
    have same := k.entries i
    rw [Option.mem_def] at he
    rw [he, Option.map_some, eq_comm, Option.map_eq_some_iff] at same
    obtain ⟨a, ha, part⟩ := same
    exact ⟨a, ha, congrArg Prod.fst part⟩
  intro i j ne a ha b hb
  obtain ⟨x, hx, left⟩ := before i a ha
  obtain ⟨y, hy, right⟩ := before j b hb
  rw [← left, ← right]
  exact h i j ne x hx y hy

theorem Loads.distinct (h : Loads s t) (values : DistinctValues s) : DistinctValues t := by
  cases h with
  | address i entry fresh single =>
    have place : ∀ k : Fin 16, (k = i ∧ (s.entries.set i entry)[k] = entry) ∨
        (k ≠ i ∧ (s.entries.set i entry)[k] = s.entries[k]) := by
      intro k
      by_cases same : k = i
      · subst same
        exact .inl ⟨rfl, by simp⟩
      · have ne : (i : Nat) ≠ k := fun e => same (Fin.ext e.symm)
        exact .inr ⟨same, by simp [ne]⟩
    intro k l ne a ha b hb
    dsimp only at ha hb
    rcases place k with ⟨rfl, e⟩ | ⟨hk, e⟩ <;> rw [e] at ha <;> rcases place l with ⟨rfl, e'⟩ | ⟨hl, e'⟩ <;> rw [e'] at hb
    · exact absurd rfl ne
    · exact (single a ha l hl b hb).symm
    · exact single b hb k hk a ha
    · exact values k l ne a ha b hb
  | _ => exact values

theorem Acts.distinct (h : Acts s c t) (values : DistinctValues s) : DistinctValues t := by
  cases h.reprofiles with
  | kept profile => exact profile.distinct values
  | loaded idle loads => exact loads.distinct values
  | cleared allowed cleared =>
    rw [cleared]
    exact (clearAll_profileKept s).distinct (resetPart_inv s).entry.distinct
  | reset resets reset =>
    rw [reset]
    exact (resetPart_inv s).entry.distinct

/-! ### States and timers of the entries -/

theorem AddrEntry.Live.recordClaim {e : AddrEntry} (h : e.Live) (a : LinkAddr) : (AddrEntry.recordClaim a e).Live :=
  ⟨⟨Nat.min_le_right _ _, h.sound.tentative⟩, h.tentative, h.contest⟩

theorem AddrEntry.Live.lose {e : AddrEntry} (h : e.Live) : (AddrEntry.lose e).Live :=
  ⟨⟨h.sound.count, nofun⟩, by simp [AddrEntry.lose], by simp [AddrEntry.lose]⟩

theorem AddrEntry.Live.contested {e : AddrEntry} (h : e.Live) (defended : e.state = .defended) (n : Nat) :
    AddrEntry.Live { e with state := .contested, contestTimer := some n } :=
  ⟨⟨h.sound.count, nofun⟩, by simp [h.tentative, defended], by simp⟩

theorem AddrEntry.Live.expireTentative {e : AddrEntry} (h : e.Live) : (AddrEntry.expireTentative e).Live := by
  obtain ⟨⟨count, loaded⟩, tentative, contest⟩ := h
  by_cases hs : e.state = .tentative
  · exact ⟨⟨count, by simp [AddrEntry.expireTentative, hs]⟩, by simp [AddrEntry.expireTentative, hs],
      by simp [AddrEntry.expireTentative, hs, contest]⟩
  · exact ⟨⟨count, by simp [AddrEntry.expireTentative, hs]⟩, by simp [AddrEntry.expireTentative, hs],
      by simp [AddrEntry.expireTentative, hs, contest]⟩

theorem AddrEntry.Live.expireContest {e : AddrEntry} (h : e.Live) : (AddrEntry.expireContest e).Live := by
  obtain ⟨⟨count, loaded⟩, tentative, contest⟩ := h
  by_cases hs : e.state = .contested
  · exact ⟨⟨count, by simp [AddrEntry.expireContest, hs]⟩, by simp [AddrEntry.expireContest, hs, tentative],
      by simp [AddrEntry.expireContest, hs]⟩
  · exact ⟨⟨count, by simpa [AddrEntry.expireContest, hs] using loaded⟩, by simp [AddrEntry.expireContest, hs, tentative],
      by simp [AddrEntry.expireContest, hs]⟩

theorem AddrEntry.Live.tick {e : AddrEntry} (h : e.Live) : (AddrEntry.tick e).Live :=
  ⟨⟨h.sound.count, h.sound.tentative⟩, by simp [AddrEntry.tick, Timer.tick, h.tentative],
    by simp [AddrEntry.tick, Timer.tick, h.contest]⟩

theorem AddrEntry.assume_live (e : AddrEntry) : (AddrEntry.assume e).Live := by
  cases hl : e.loaded <;>
    exact ⟨⟨Nat.zero_le _, by simp [AddrEntry.assume, AddrEntry.restore, hl]⟩, by simp [AddrEntry.assume, AddrEntry.restore, hl],
      by simp [AddrEntry.assume, AddrEntry.restore, hl]⟩

theorem AddrEntry.rearm_rests (e : AddrEntry) : (AddrEntry.rearm e).Rests := ⟨rfl, rfl, rfl⟩

theorem Touch.live (h : Touch s t) (live : EveryEntry AddrEntry.Live s) : EveryEntry AddrEntry.Live t := by
  cases h with
  | weight j w => exact live.same (by simp)
  | record i a => exact live.update i fun e _ le => le.recordClaim a
  | contest i e _ inUse defended =>
    refine live.update i fun a ha la => la.contested ?_ _
    rw [Option.mem_def, inUse, Option.some.injEq] at ha
    rw [← ha]
    exact defended
  | lose i => exact live.update i fun e _ le => le.lose
  | _ => exact live

theorem Works.live (works : Works s t) (live : EveryEntry AddrEntry.Live s) : EveryEntry AddrEntry.Live t :=
  works.keeps (P := EveryEntry AddrEntry.Live) (fun _ _ => Touch.live) live

theorem everyEntry_true (s : State) : EveryEntry (fun _ => True) s := fun _ _ _ => trivial

theorem Loads.rests (h : Loads s t) (rests : EveryEntry AddrEntry.Rests s) : EveryEntry AddrEntry.Rests t := by
  cases h with
  | address i entry fresh =>
    exact set_forall (P := fun x : Option AddrEntry => ∀ e ∈ x, e.Rests) rests i fun e he =>
      ⟨(fresh e he).state, (fresh e he).conflicts, (fresh e he).claimant⟩
  | _ => exact rests

theorem handbackIfClear_entries (s : State) : (handbackIfClear s).entries = s.entries := by
  rcases handbackIfClear_cases s with ⟨-, -, e⟩ | ⟨-, e⟩ <;> rw [e]
  rfl

theorem takeStormVote_entries (n : Nat) (s : State) : (takeStormVote n s).entries = s.entries := by
  rcases takeStormVote_cases n s with ⟨-, e⟩ | ⟨-, -, e⟩ | ⟨-, -, -, e⟩ | ⟨-, -, -, e⟩ <;> rw [e]
  exact addWeight_entries _ _ _

theorem linkUp_entries (s : State) : (linkUp s).entries = s.entries := (congrArg State.entries (linkUp_onlyNet s) :)

theorem linkDown_entries (s : State) : (linkDown s).entries = s.entries := (congrArg State.entries (linkDown_onlyNet s) :)

theorem clearAll_rests (s : State) : EveryEntry AddrEntry.Rests (clearAll s) := by
  intro i e he
  simp [clearAll, clearProfileTables] at he

theorem startProxy_live (s : State) : EveryEntry AddrEntry.Live (startProxy s) := by
  have live : EveryEntry AddrEntry.Live (opened s) :=
    (everyEntry_true s).map (fun e _ => e.assume_live) (opened_entries s)
  rw [startProxy_eq]
  exact ((expired_works s).live live).same (by simp [expired])

theorem Acts.entryInv (h : Acts s c t) (inv : Inv s) : EntryInv t := by
  have entry := inv.entry
  have values := h.distinct entry.distinct
  cases h with
  | still => exact entry
  | reset => exact (resetPart_inv s).entry
  | load _ _ idle loads =>
    have passive : t.active = false := by simp [State.active, loads.proxy, idle]
    exact .of_rests values passive (loads.rests (entry.rests idle))
  | clear => exact .of_rests values rfl (clearAll_rests s)
  | detach => exact .of_rests values rfl (clearAll_rests s)
  | rearm => exact .of_rests values rfl ((everyEntry_true s).map (fun e _ => e.rearm_rests) rfl)
  | assume => exact .of_live values (startProxy_frame s).1 (startProxy_live s)
  | reclaim =>
    have sound : EveryEntry AddrEntry.Sound (takePortBack s) :=
      (entry.sound.map (t := stopBlocks s) (Q := AddrEntry.Sound) (f := fun a => { a with tentativeTimer := none, contestTimer := none })
        (fun _ he => ⟨he.count, he.tentative⟩) rfl).same (handbackIfClear_entries _)
    exact .of_sound values (handbackIfClear_passive rfl) (handbackIfClear_not_idle rfl) sound
  | fetch => exact entry.same rfl id id
  | complete =>
    rcases handbackIfClear_cases s with ⟨handback, clear, -⟩ | ⟨-, e⟩
    · rw [inv.lifecycle.inFlight handback] at clear
      cases clear
    · rw [e]
      exact entry
  | elapse active => exact .of_live values active ((entry.live active).map (fun _ he => he.tick) (tickTimers_entries _))
  | age => exact entry.same rfl id id
  | serve _ u busy serves =>
    rcases busy with active | handback
    · obtain ⟨q, -, works⟩ := serves.works
      have live := works.live ((entry.live active).same (t := { s with queue := q }) rfl)
      exact .of_live values (serves.active.1.trans active) (live.same (by simp))
    · rw [serves.startTransmit_of_handback inv.lifecycle handback, serves.of_handback handback]
      exact entry.same rfl id id
  | lastResult r e rest handback =>
    have handed := handResult_of_handback (s := { s with queue := rest }) handback e.origin r
    have proxy : (handResult e.origin r { s with queue := rest }).proxy = s.proxy := (congrArg State.proxy handed :)
    have entries : (handResult e.origin r { s with queue := rest }).entries = s.entries := (congrArg State.entries handed :)
    exact .of_sound values (handbackIfClear_passive (proxy.trans handback)) (handbackIfClear_not_idle (proxy.trans handback))
      (entry.sound.same ((handbackIfClear_entries _).trans entries))
  | link => exact entry.same rfl id id
  | linkUp active =>
    refine .of_live values ?_ ((entry.live active).same (by rw [startTransmit_entries, linkUp_entries]))
    rw [startTransmit_active, (linkUp_frame _).1]
    exact active
  | linkDown active =>
    refine .of_live values ?_ ((entry.live active).same (by rw [startTransmit_entries, linkDown_entries]))
    rw [startTransmit_active, (linkDown_frame _).1]
    exact active
  | tentative i active => exact .of_live values active ((entry.live active).update i fun _ _ he => he.expireTentative)
  | contest i active => exact .of_live values active ((entry.live active).update i fun _ _ he => he.expireContest)
  | window active =>
    exact .of_live values ((endWindow_frame s).1.trans active)
      ((entry.live active).same (takeStormVote_entries s.windowCount (budgeted s)))
  | decay => exact entry.same rfl id id
  | settle active =>
    exact .of_live values (by rw [evaluateAll_active]; exact active) ((entry.live active).same (by simp))
  | patience =>
    split
    · exact entry.same rfl id id
    · exact entry.same rfl id id
  | gap => exact entry.same rfl id id

end Sys2Proof.Machine
end

section
/-! SUPPORT. The timers' rule and the Wake Unit over every step; with the Address Table, obligation O9. -/

namespace Sys2Proof.Machine

variable {s t u : State} {c : Instr}

/-! ### The timers -/

/-- Outside PROXY and WAKING every timer is stopped (R3). -/
structure Stopped (s : State) : Prop where
  window : s.windowTimer = none
  decay : s.decayTimer = none
  settle : s.settleTimer = none
  patience : s.patienceTimer = none
  gap : s.gapTimer = none
  entries : ∀ i : Fin 16, ∀ e ∈ s.entries[i], e.tentativeTimer = none ∧ e.contestTimer = none
  duties : ∀ d : Fin 12, ∀ u ∈ (s.duties[d]).duty, u.run.timer = none

theorem TimersInv.of_active (active : t.active = true) (window : t.windowTimer.isSome = true) (decay : t.decayTimer.isSome = true) :
    TimersInv t where
  running := fun _ => ⟨window, decay⟩
  stopped := fun passive => absurd (active.symm.trans passive) nofun
  entries := fun passive => absurd (active.symm.trans passive) nofun
  duties := fun passive => absurd (active.symm.trans passive) nofun

theorem TimersInv.of_stopped (passive : t.active = false) (h : Stopped t) : TimersInv t where
  running := fun active => absurd (active.symm.trans passive) nofun
  stopped := fun _ => ⟨h.window, h.decay, h.settle, h.patience, h.gap⟩
  entries := fun _ => h.entries
  duties := fun _ => h.duties

theorem TimersInv.are_stopped (h : TimersInv s) (passive : s.active = false) : Stopped s := by
  obtain ⟨window, decay, settle, patience, gap⟩ := h.stopped passive
  exact ⟨window, decay, settle, patience, gap, h.entries passive, h.duties passive⟩

/-- A change that keeps the timers and starts no work. -/
structure SameTimers (s t : State) : Prop where
  window : t.windowTimer = s.windowTimer
  decay : t.decayTimer = s.decayTimer
  settle : t.settleTimer = s.settleTimer
  patience : t.patienceTimer = s.patienceTimer
  gap : t.gapTimer = s.gapTimer
  entries : t.entries = s.entries
  duties : t.duties = s.duties

theorem Stopped.same (h : Stopped s) (k : SameTimers s t) : Stopped t where
  window := k.window.trans h.window
  decay := k.decay.trans h.decay
  settle := k.settle.trans h.settle
  patience := k.patience.trans h.patience
  gap := k.gap.trans h.gap
  entries := by rw [k.entries]; exact h.entries
  duties := by rw [k.duties]; exact h.duties

theorem Loads.stopped (h : Loads s t) (stopped : Stopped s) : Stopped t := by
  obtain ⟨window, decay, settle, patience, gap, entries, duties⟩ := stopped
  cases h with
  | address i entry fresh =>
    refine ⟨window, decay, settle, patience, gap, ?_, duties⟩
    exact set_forall (P := fun x : Option AddrEntry => ∀ e ∈ x, e.tentativeTimer = none ∧ e.contestTimer = none) entries i
      fun e he => ⟨(fresh e he).tentativeTimer, (fresh e he).contestTimer⟩
  | duty d u next fresh =>
    refine ⟨window, decay, settle, patience, gap, entries, ?_⟩
    exact set_forall (P := fun slot : DutySlot => ∀ u ∈ slot.duty, u.run.timer = none) duties d fun x hx => by
      rw [(fresh x hx).run]
      rfl
  | signature g =>
    refine ⟨window, decay, settle, patience, gap, entries, fun d u hu => duties d u ?_⟩
    simpa [setProbeFlags] using hu
  | _ => exact ⟨window, decay, settle, patience, gap, entries, duties⟩

theorem stopBlocks_stopped (s : State) : Stopped (stopBlocks s) where
  window := rfl
  decay := rfl
  settle := rfl
  patience := rfl
  gap := rfl
  entries := by
    intro i e he
    simp only [stopBlocks_entries, Option.mem_def, Fin.getElem_fin, Vector.getElem_ofFn, Option.map_eq_some_iff] at he
    obtain ⟨a, -, rfl⟩ := he
    exact ⟨rfl, rfl⟩
  duties := by
    intro d u hu
    simp only [stopBlocks_duties, Option.mem_def, Fin.getElem_fin, Vector.getElem_ofFn, Option.map_eq_some_iff] at hu
    obtain ⟨a, -, rfl⟩ := hu
    rfl

theorem rearmAll_stopped (s : State) : Stopped (rearmAll s) where
  window := rfl
  decay := rfl
  settle := rfl
  patience := rfl
  gap := rfl
  entries := by
    intro i e he
    simp only [rearmAll, getElem_mapTable, Option.mem_def, Option.map_eq_some_iff] at he
    obtain ⟨a, -, rfl⟩ := he
    exact ⟨rfl, rfl⟩
  duties := by
    intro d u hu
    simp only [rearmAll, getElem_mapTable, Option.mem_def, Option.map_eq_some_iff] at hu
    obtain ⟨a, -, rfl⟩ := hu
    rfl

theorem clearAll_stopped (s : State) : Stopped (clearAll s) := by
  constructor <;> simp [clearAll, clearProfileTables, rearmAll]

theorem handbackIfClear_stopped (h : Stopped s) : Stopped (handbackIfClear s) := by
  rcases handbackIfClear_cases s with ⟨-, -, e⟩ | ⟨-, e⟩ <;> rw [e]
  · exact h.same (by constructor <;> rfl)
  · exact h

theorem endWindow_timers (s : State) : (endWindow s).windowTimer.isSome = true ∧ (endWindow s).decayTimer = s.decayTimer := by
  obtain ⟨v, stats, -, -, -, works⟩ := takeStormVote_works s.windowCount (budgeted s)
  rw [endWindow_eq]
  exact ⟨rfl, works.sameFrame.decayTimer⟩

theorem linkUp_timers (s : State) : (linkUp s).windowTimer = s.windowTimer ∧ (linkUp s).decayTimer = s.decayTimer :=
  ⟨(congrArg State.windowTimer (linkUp_onlyNet s) :), (congrArg State.decayTimer (linkUp_onlyNet s) :)⟩

theorem linkDown_timers (s : State) : (linkDown s).windowTimer = s.windowTimer ∧ (linkDown s).decayTimer = s.decayTimer :=
  ⟨(congrArg State.windowTimer (linkDown_onlyNet s) :), (congrArg State.decayTimer (linkDown_onlyNet s) :)⟩

theorem startProxy_timers (s : State) :
    (startProxy s).windowTimer.isSome = true ∧ (startProxy s).decayTimer.isSome = true := by
  have same := (expired_works s).sameFrame
  rw [startProxy_eq, startTransmit_windowTimer, startTransmit_decayTimer]
  exact ⟨by rw [← expired, same.windowTimer]; rfl, by rw [← expired, same.decayTimer]; rfl⟩

theorem tick_isSome (r : Timer) : (Timer.tick r).isSome = r.isSome := Option.isSome_map

theorem Acts.timersInv (h : Acts s c t) (inv : Inv s) : TimersInv t := by
  have timers := inv.timers
  cases h with
  | still => exact timers
  | reset => exact (resetPart_inv s).timers
  | load _ _ idle loads =>
    have passive : s.active = false := by simp [State.active, idle]
    exact .of_stopped (by simp [State.active, loads.proxy, idle]) (loads.stopped (timers.are_stopped passive))
  | clear => exact .of_stopped rfl (clearAll_stopped s)
  | detach => exact .of_stopped rfl (clearAll_stopped s)
  | rearm => exact .of_stopped rfl (rearmAll_stopped s)
  | assume => exact .of_active (startProxy_frame s).1 (startProxy_timers s).1 (startProxy_timers s).2
  | reclaim => exact .of_stopped (handbackIfClear_passive rfl) (handbackIfClear_stopped (stopBlocks_stopped s))
  | fetch m h rest report =>
    have passive : s.active = false := by simp [State.active, report]
    exact .of_stopped passive ((timers.are_stopped passive).same (by constructor <;> rfl))
  | complete =>
    rcases handbackIfClear_cases s with ⟨handback, clear, -⟩ | ⟨-, e⟩
    · rw [inv.lifecycle.inFlight handback] at clear
      cases clear
    · rw [e]
      exact timers
  | elapse active =>
    obtain ⟨window, decay⟩ := timers.running active
    exact .of_active active ((tick_isSome _).trans window) ((tick_isSome _).trans decay)
  | age handback =>
    have passive : s.active = false := by simp [State.active, handback]
    exact .of_stopped passive ((timers.are_stopped passive).same (by constructor <;> rfl))
  | serve _ u busy serves =>
    rcases busy with active | handback
    · obtain ⟨q, -, works⟩ := serves.works
      obtain ⟨window, decay⟩ := timers.running active
      have same := works.sameFrame
      exact .of_active (serves.active.1.trans active) (by rw [startTransmit_windowTimer, same.windowTimer]; exact window)
        (by rw [startTransmit_decayTimer, same.decayTimer]; exact decay)
    · have passive : s.active = false := by simp [State.active, handback]
      rw [serves.startTransmit_of_handback inv.lifecycle handback, serves.of_handback handback]
      exact .of_stopped passive ((timers.are_stopped passive).same (by constructor <;> rfl))
  | lastResult r e rest handback =>
    have passive : s.active = false := by simp [State.active, handback]
    rw [handResult_of_handback (s := { s with queue := rest }) handback e.origin r]
    exact .of_stopped (handbackIfClear_passive handback)
      (handbackIfClear_stopped ((timers.are_stopped passive).same (by constructor <;> rfl)))
  | link l passive => exact .of_stopped passive ((timers.are_stopped passive).same (by constructor <;> rfl))
  | linkUp active =>
    obtain ⟨window, decay⟩ := timers.running active
    refine .of_active ?_ (by rw [startTransmit_windowTimer, (linkUp_timers _).1]; exact window)
      (by rw [startTransmit_decayTimer, (linkUp_timers _).2]; exact decay)
    rw [startTransmit_active, (linkUp_frame _).1]
    exact active
  | linkDown active =>
    obtain ⟨window, decay⟩ := timers.running active
    refine .of_active ?_ (by rw [startTransmit_windowTimer, (linkDown_timers _).1]; exact window)
      (by rw [startTransmit_decayTimer, (linkDown_timers _).2]; exact decay)
    rw [startTransmit_active, (linkDown_frame _).1]
    exact active
  | tentative i active => exact .of_active active (timers.running active).1 (timers.running active).2
  | contest i active => exact .of_active active (timers.running active).1 (timers.running active).2
  | window active =>
    exact .of_active ((endWindow_frame s).1.trans active) (endWindow_timers s).1
      (by rw [(endWindow_timers s).2]; exact (timers.running active).2)
  | decay active => exact .of_active active (timers.running active).1 rfl
  | settle active =>
    exact .of_active (by rw [evaluateAll_active]; exact active) (by rw [evaluateAll_windowTimer]; exact (timers.running active).1)
      (by rw [evaluateAll_decayTimer]; exact (timers.running active).2)
  | patience waking =>
    have active : s.active = true := by simp [State.active, waking]
    split
    · exact .of_active active (timers.running active).1 (timers.running active).2
    · exact .of_active active (timers.running active).1 (timers.running active).2
  | gap waking =>
    have active : s.active = true := by simp [State.active, waking]
    exact .of_active active (timers.running active).1 (timers.running active).2

/-! ### The Wake Unit -/

/-- A change outside the Wake Unit; elapsed time may rise. -/
structure SameWake (s t : State) : Prop where
  proxy : t.proxy = s.proxy
  lanes : t.lanes = s.lanes
  wake : t.wake = s.wake
  gap : t.gapTimer.isSome = s.gapTimer.isSome
  patience : t.patienceTimer.isSome = s.patienceTimer.isSome
  reasons : t.reasons = s.reasons
  first : t.firstReason = s.firstReason
  resignals : t.resignals = s.resignals
  elapsed : s.elapsed ≤ t.elapsed

theorem isSome_congr_none {a b : Timer} (h : a.isSome = b.isSome) : a = none ↔ b = none := by
  rw [← Option.isNone_iff_eq_none, ← Option.isNone_iff_eq_none]
  cases a <;> cases b <;> simp_all

theorem WakeInv.same (h : WakeInv s) (k : SameWake s t) : WakeInv t where
  lanes := by rw [k.lanes]; exact h.lanes
  line := by rw [k.wake, k.proxy]; exact h.line
  gap := by rw [k.proxy, k.wake, k.gap]; exact h.gap
  proxy := by
    rw [k.proxy, k.reasons, k.resignals, isSome_congr_none k.patience, isSome_congr_none k.gap]
    exact h.proxy
  waking := by rw [k.proxy, k.reasons]; exact h.waking
  first := by rw [k.first, k.reasons]; exact h.first
  member := by
    rw [k.first, k.reasons]
    exact fun f hf => ⟨(h.member f hf).1, (h.member f hf).2.trans k.elapsed⟩
  resignals := by rw [k.resignals]; exact h.resignals
  patience := by rw [k.patience, k.resignals, isSome_congr_none k.gap]; exact h.patience
  gap_count := by rw [k.gap, k.resignals]; exact h.gap_count

theorem WakeInv.setLanes (h : WakeInv s) (v : Vector Nat 8) (small : ∀ j : Fin 8, v[j] ≤ 65535) :
    WakeInv { s with lanes := v } := by
  cases h
  constructor
  case lanes => exact small
  all_goals assumption

/-- An evaluation keeps the Wake Unit's facts: a set no longer empty wakes (R171). -/
theorem Evaluates.wakeInv (h : Evaluates s t) (inv : WakeInv s) : WakeInv t := by
  obtain ⟨a, joins⟩ := h
  obtain ⟨first, member⟩ := joins.sound ⟨inv.first, inv.member⟩
  have frame := joins.frame
  have proxy : a.proxy = s.proxy := (congrArg State.proxy frame :)
  have wake : a.wake = s.wake := (congrArg State.wake frame :)
  have lanes : a.lanes = s.lanes := (congrArg State.lanes frame :)
  have gap : a.gapTimer = s.gapTimer := (congrArg State.gapTimer frame :)
  have patience : a.patienceTimer = s.patienceTimer := (congrArg State.patienceTimer frame :)
  have resignals : a.resignals = s.resignals := (congrArg State.resignals frame :)
  unfold wakeDecision
  split
  · next woken =>
    obtain ⟨-, ne, isProxy⟩ := woken
    obtain ⟨-, zero, -, noGap⟩ := inv.proxy (proxy.symm.trans isProxy)
    constructor
    case lanes => dsimp only; rw [lanes]; exact inv.lanes
    case gap => simp [gap, noGap]
    case waking => exact fun _ => ne
    case first => exact first
    case member => exact member
    case line => simp
    case proxy => simp
    case resignals => simp [resignals, zero]
    case patience => simp [resignals, zero, gap, noGap]
    case gap_count => simp [gap, noGap]
  · next asleep =>
    constructor
    case lanes => rw [lanes]; exact inv.lanes
    case line => rw [wake, proxy]; exact inv.line
    case gap => rw [proxy, wake, gap]; exact inv.gap
    case proxy =>
      intro isProxy
      obtain ⟨empty, rest⟩ := inv.proxy (proxy.symm.trans isProxy)
      rw [resignals, patience, gap]
      exact ⟨by_contra fun ne => asleep ⟨empty, ne, isProxy⟩, rest⟩
    case waking => exact fun waking => joins.grows (inv.waking (proxy.symm.trans waking))
    case first => exact first
    case member => exact member
    case resignals => rw [resignals]; exact inv.resignals
    case patience => rw [patience, resignals, gap]; exact inv.patience
    case gap_count => rw [gap, resignals]; exact inv.gap_count

theorem addWeight_wakeInv (j : Fin 8) (w : Nat) (inv : WakeInv s) : WakeInv (addWeight j w s) := by
  have raised : WakeInv { s with lanes := s.lanes.set j (satAdd16 s.lanes[j] w) } :=
    inv.setLanes _ (set_forall (P := fun n : Nat => n ≤ 65535) inv.lanes j (Nat.min_le_right _ _))
  rcases addWeight_cases j w s with ⟨-, e⟩ | ⟨-, -, -, e⟩ | ⟨-, -, -, e⟩ <;> rw [e]
  · exact inv
  · exact raised
  · exact (evaluateLane_evaluates j _).wakeInv raised

theorem Touch.wakeInv (h : Touch s t) (inv : WakeInv s) : WakeInv t := by
  cases h with
  | weight j w => exact addWeight_wakeInv j w inv
  | _ => exact inv.same ⟨rfl, rfl, rfl, rfl, rfl, rfl, rfl, rfl, le_rfl⟩

theorem Works.wakeInv (works : Works s t) (inv : WakeInv s) : WakeInv t := works.keeps (P := WakeInv) (fun _ _ => Touch.wakeInv) inv

/-- The Wake Unit at rest, as Rearm and Assume leave it (R7, R15). -/
theorem WakeInv.of_fresh (lanes : t.lanes = Vector.replicate 8 0) (wake : t.wake = false) (gap : t.gapTimer = none)
    (patience : t.patienceTimer = none) (reasons : t.reasons = 0) (first : t.firstReason = none) (resignals : t.resignals = 0)
    (asleep : t.proxy ≠ .waking) : WakeInv t := by
  constructor <;> simp [lanes, wake, gap, patience, reasons, first, resignals, asleep]

/-- The Wake Unit stopped by a Reclaim (R10, R175). -/
theorem stopBlocks_wakeInv (inv : WakeInv s) : WakeInv (stopBlocks s) where
  lanes := inv.lanes
  line := nofun
  gap := nofun
  proxy := nofun
  waking := nofun
  first := inv.first
  member := inv.member
  resignals := inv.resignals
  patience := nofun
  gap_count := nofun

theorem handbackIfClear_wakeInv (inv : WakeInv s) : WakeInv (handbackIfClear s) := by
  rcases handbackIfClear_cases s with ⟨handback, -, e⟩ | ⟨-, e⟩ <;> rw [e]
  · have line := inv.line
    rw [handback] at line
    cases inv
    constructor
    case line => exact fun on => nomatch line on
    case gap => exact nofun
    case proxy => exact nofun
    case waking => exact nofun
    all_goals assumption
  · exact inv

theorem decay_le (setting : LaneSetting) (v : Nat) : setting.decay v ≤ v := by
  unfold LaneSetting.decay
  split
  · exact Nat.div_le_self _ _
  · exact Nat.sub_le _ _

theorem linkUp_wakeInv (inv : WakeInv s) : WakeInv (linkUp s) := by
  by_cases down : s.net = .linkDown
  · rcases linkUp_works down with ⟨-, works⟩ | ⟨-, works⟩
    · exact works.wakeInv (inv.same ⟨rfl, rfl, rfl, rfl, rfl, rfl, rfl, rfl, le_rfl⟩)
    · exact works.wakeInv (inv.same ⟨rfl, rfl, rfl, rfl, rfl, rfl, rfl, rfl, le_rfl⟩)
  · rw [linkUp_of_up down]
    exact inv

theorem linkDown_wakeInv (inv : WakeInv s) : WakeInv (linkDown s) := by
  by_cases down : s.net = .linkDown
  · rw [linkDown_of_down down]
    exact inv
  · exact (linkDown_works down).wakeInv (inv.same ⟨rfl, rfl, rfl, rfl, rfl, rfl, rfl, rfl, le_rfl⟩)

theorem startTransmit_wakeInv (inv : WakeInv s) : WakeInv (startTransmit s) :=
  inv.same ⟨by simp, by simp, by simp, by simp, by simp, by simp, by simp, by simp, by simp⟩

theorem startProxy_wakeInv (s : State) : WakeInv (startProxy s) := by
  have fresh : WakeInv (opened s) := .of_fresh rfl rfl rfl rfl rfl rfl rfl nofun
  rw [startProxy_eq]
  exact startTransmit_wakeInv ((expired_works s).wakeInv fresh)

theorem endWindow_wakeInv (inv : WakeInv s) : WakeInv (endWindow s) := by
  obtain ⟨v, stats, -, -, -, works⟩ := takeStormVote_works s.windowCount (budgeted s)
  rw [endWindow_eq]
  have voted := works.wakeInv (inv.same ⟨rfl, rfl, rfl, rfl, rfl, rfl, rfl, rfl, le_rfl⟩)
  exact voted.same ⟨rfl, rfl, rfl, rfl, rfl, rfl, rfl, rfl, le_rfl⟩

theorem Loads.sameWake (h : Loads s t) : SameWake s t := by
  cases h <;> exact ⟨rfl, rfl, rfl, rfl, rfl, rfl, rfl, rfl, le_rfl⟩

theorem expirePatience_wakeInv (inv : WakeInv s) (waking : s.proxy = .waking) (runs : s.patienceTimer.isSome = true) :
    WakeInv (if s.resignals < 3 then { s with wake := false, patienceTimer := none, gapTimer := some Config.gapMs }
      else { s with patienceTimer := none }) := by
  have few := (inv.patience runs).1
  rw [if_pos few]
  constructor
  case lanes => exact inv.lanes
  case first => exact inv.first
  case member => exact inv.member
  case resignals => exact inv.resignals
  case waking => exact inv.waking
  case gap_count => exact fun _ => few
  case line => exact nofun
  case gap => simp
  case patience => exact nofun
  case proxy => simp [waking]

theorem expireGap_wakeInv (inv : WakeInv s) (waking : s.proxy = .waking) (runs : s.gapTimer.isSome = true) :
    WakeInv { s with
      wake := true, gapTimer := none, resignals := s.resignals + 1
      patienceTimer := if s.resignals + 1 < 3 then some (s.station.wakePatience * 1000) else none } where
  lanes := inv.lanes
  line := fun _ => waking
  gap := by simp
  proxy := by simp [waking]
  waking := inv.waking
  first := inv.first
  member := inv.member
  resignals := inv.gap_count runs
  patience := by
    dsimp only
    split
    · next few => exact fun _ => ⟨few, rfl⟩
    · exact nofun
  gap_count := nofun

theorem Acts.wakeInv (h : Acts s c t) (inv : Inv s) : WakeInv t := by
  have before := inv.wake
  cases h with
  | reset => exact (resetPart_inv s).wake
  | load _ _ idle loads => exact before.same loads.sameWake
  | clear => exact .of_fresh rfl rfl rfl rfl rfl rfl rfl nofun
  | detach => exact .of_fresh rfl rfl rfl rfl rfl rfl rfl nofun
  | rearm => exact .of_fresh rfl rfl rfl rfl rfl rfl rfl nofun
  | assume => exact startProxy_wakeInv s
  | reclaim => exact handbackIfClear_wakeInv (stopBlocks_wakeInv before)
  | complete => exact handbackIfClear_wakeInv before
  | elapse =>
    exact before.same ⟨rfl, rfl, rfl, tick_isSome _, tick_isSome _, rfl, rfl, rfl, satAdd32_ge inv.stats.elapsed_le⟩
  | age => exact before.same ⟨rfl, rfl, rfl, rfl, rfl, rfl, rfl, rfl, satAdd32_ge inv.stats.elapsed_le⟩
  | serve _ u busy serves =>
    obtain ⟨q, -, works⟩ := serves.works
    exact startTransmit_wakeInv (works.wakeInv (before.same ⟨rfl, rfl, rfl, rfl, rfl, rfl, rfl, rfl, le_rfl⟩))
  | lastResult r e rest handback =>
    exact handbackIfClear_wakeInv ((handResult_works e.origin r).wakeInv
      (before.same ⟨rfl, rfl, rfl, rfl, rfl, rfl, rfl, rfl, le_rfl⟩))
  | linkUp =>
    exact startTransmit_wakeInv (linkUp_wakeInv (before.same ⟨rfl, rfl, rfl, rfl, rfl, rfl, rfl, rfl, le_rfl⟩))
  | linkDown =>
    exact startTransmit_wakeInv (linkDown_wakeInv (before.same ⟨rfl, rfl, rfl, rfl, rfl, rfl, rfl, rfl, le_rfl⟩))
  | window => exact endWindow_wakeInv before
  | decay =>
    refine (before.setLanes (decayLanes s).lanes fun j => ?_).same ⟨rfl, rfl, rfl, rfl, rfl, rfl, rfl, rfl, le_rfl⟩
    have value : (decayLanes s).lanes[j] = (s.laneSettings[j]).decay s.lanes[j] := by simp [decayLanes]
    rw [value]
    exact (decay_le _ _).trans (before.lanes j)
  | settle =>
    have stopped : WakeInv { s with settleTimer := none } := before.same ⟨rfl, rfl, rfl, rfl, rfl, rfl, rfl, rfl, le_rfl⟩
    exact (evaluateAll_evaluates _).wakeInv stopped
  | patience waking runs => exact expirePatience_wakeInv before waking runs
  | gap waking runs => exact expireGap_wakeInv before waking runs
  | _ => exact before.same ⟨rfl, rfl, rfl, rfl, rfl, rfl, rfl, rfl, le_rfl⟩

/-! ### The settled obligation -/

theorem EntryInv.onlyLink (link : OnlyLink s t) (h : EntryInv s) : EntryInv t := by
  rw [OnlyLink] at link
  rw [link]
  cases h
  constructor <;> assumption

theorem TimersInv.onlyLink (link : OnlyLink s t) (h : TimersInv s) : TimersInv t := by
  rw [OnlyLink] at link
  rw [link]
  cases h
  constructor <;> assumption

theorem WakeInv.onlyLink (link : OnlyLink s t) (h : WakeInv s) : WakeInv t := by
  rw [OnlyLink] at link
  rw [link]
  cases h
  constructor <;> assumption

/-- Settles O9: entries, timers and the Wake Unit by the primitive updates of an event and the cases of a command. -/
theorem step_keeps_the_address_table_and_the_wake_unit : Obligations.Step_keeps_the_address_table_and_the_wake_unit :=
  fun _ _ inv h =>
    step_keeps (P := fun s => EntryInv s ∧ TimersInv s ∧ WakeInv s) (fun _ inv => ⟨inv.entry, inv.timers, inv.wake⟩)
      (fun _ _ link all => ⟨all.1.onlyLink link, all.2.1.onlyLink link, all.2.2.onlyLink link⟩)
      (fun _ _ _ inv acts => ⟨acts.entryInv inv, acts.timersInv inv, acts.wakeInv inv⟩) inv h

end Sys2Proof.Machine
end

section
/-! SUPPORT. The Duty Scheduler's operations on one duty in use, by case: what a try, a run's start, a run's end and a failure
make of the duty's run-time state, in the words of the statements. Then obligation O46. -/

namespace Sys2Proof.Machine

variable {s t : State} {d : Fin 12} {u : Duty} {r : DutyRun} {p : DutyProfile}

/-! ### One duty's run-time state replaced -/

theorem duty?_eq (hu : (s.duties[d]).duty = some u) : duty? s d = some u := hu

theorem updRun_eq_withRun (hu : (s.duties[d]).duty = some u) (f : DutyRun → DutyRun) :
    updRun d f s = withRun d (f u.run) s := by
  simp only [updRun, withRun, hu, Option.map_some]

theorem updRun_of_unused (h : (s.duties[d]).duty = none) (f : DutyRun → DutyRun) : updRun d f s = s := by
  have same : s.duties.set d s.duties[d] = s.duties := Vector.set_getElem_self d.isLt
  have slot : { s.duties[d] with duty := (s.duties[d]).duty.map fun u => { u with run := f u.run } } = s.duties[d] := by
    rw [h, Option.map_none, ← h]
  rw [updRun, slot, same]

theorem withRun_duties_self (hu : (s.duties[d]).duty = some u) (r : DutyRun) :
    (withRun d r s).duties[d] = { s.duties[d] with duty := some { u with run := r } } := by
  have slot := updRun_duties_self d (fun _ => r) s
  rw [hu] at slot
  exact slot

theorem withRun_duty (hu : (s.duties[d]).duty = some u) (r : DutyRun) :
    ((withRun d r s).duties[d]).duty = some { u with run := r } := by
  rw [withRun_duties_self hu]

theorem withRun_duties_ne {e : Fin 12} (h : d ≠ e) (r : DutyRun) : (withRun d r s).duties[e] = s.duties[e] :=
  updRun_duties_ne d e (fun _ => r) s h

theorem withRun_withRun (q r : DutyRun) (s : State) : withRun d r (withRun d q s) = withRun d r s :=
  updRun_updRun d (fun _ => q) (fun _ => r) s

theorem updRun_withRun (f : DutyRun → DutyRun) (r : DutyRun) (s : State) : updRun d f (withRun d r s) = withRun d (f r) s :=
  updRun_updRun d (fun _ => r) f s

@[simp] theorem withRun_probe (e : Fin 12) (r : DutyRun) (s : State) : ((withRun d r s).duties[e]).probe = (s.duties[e]).probe :=
  updRun_probe d e (fun _ => r) s

/-- An addition reads no duty and changes none. -/
theorem addWeight_withRun (j : Fin 8) (w : Nat) (r : DutyRun) (s : State) :
    addWeight j w (withRun d r s) = withRun d r (addWeight j w s) := by
  have same : WakeEq s (withRun d r s) := by constructor <;> rfl
  rw [addWeight_of_wakeEq j w same, (addWeight_onlyWake j w s).eq]
  simp only [withRun]

/-! ### Leave, and the entries a frame names -/

theorem hasLeave_iff {n : NetState} {b : Bool} : hasLeave n b = true ↔ n = .attached ∨ (n = .checking ∧ b = true) := by
  simp [hasLeave]

theorem dutyLeave_iff : dutyLeave s d = true ↔ Leave s d := hasLeave_iff

theorem patchesOf_eq (s : State) (list : Option (Fin 32)) : patchesOf s list = listOf s list := by
  cases list <;> rfl

theorem namesLost_iff {list : Option (Fin 32)} : namesLost s (patchesOf s list) = true ↔ NamesLost s list := by
  rw [namesLost, List.any_eq_true, patchesOf_eq]
  constructor
  · rintro ⟨patch, mem, lost⟩
    split at lost
    · next dest i =>
      obtain ⟨e, he, state⟩ := (Option.any_eq_true _ _).1 lost
      exact ⟨dest, i, e, mem, he, by simpa using state⟩
    · cases lost
  · rintro ⟨dest, i, e, mem, he, state⟩
    exact ⟨_, mem, by simp [he, state]⟩

theorem not_namesLost_iff {list : Option (Fin 32)} : namesLost s (patchesOf s list) = false ↔ ¬NamesLost s list := by
  rw [← namesLost_iff, Bool.not_eq_true]

/-! ### A try (R109) -/

theorem makeTry_of_unused (h : (s.duties[d]).duty = none) : makeTry d s = s := by
  have absent : duty? s d = none := h
  rw [makeTry, absent]

theorem makeTry_of_no_leave (hu : (s.duties[d]).duty = some u) (no : ¬Leave s d) :
    makeTry d s = withRun d (u.run.defer .try_) s := by
  rw [← dutyLeave_iff, Bool.not_eq_true] at no
  rw [makeTry, duty?_eq hu]
  dsimp only
  rw [no]
  exact updRun_eq_withRun hu _

theorem makeTry_of_lost (hu : (s.duties[d]).duty = some u) (leave : Leave s d) (lost : NamesLost s u.profile.patchList) :
    makeTry d s = withRun d u.run.loseAddress s := by
  rw [makeTry, duty?_eq hu]
  dsimp only
  rw [dutyLeave_iff.2 leave, namesLost_iff.2 lost]
  exact updRun_eq_withRun hu _

theorem admits_duty {q : List TxEntry} : admits q .duty = true ↔ q.length < 8 := by
  rw [admits, Bool.and_eq_true, decide_eq_true_iff]
  exact and_iff_left rfl

theorem makeTry_of_room (hu : (s.duties[d]).duty = some u) (leave : Leave s d) (sound : ¬NamesLost s u.profile.patchList)
    (room : s.queue.length < 8) :
    makeTry d s = withRun d (u.run.enter .queued) (enqueue (.duty d) .duty (buildDuty s u) s) := by
  rw [makeTry, duty?_eq hu]
  dsimp only
  rw [dutyLeave_iff.2 leave, not_namesLost_iff.2 sound, admits_duty.2 room]
  exact updRun_eq_withRun (s := enqueue (.duty d) .duty (buildDuty s u) s) hu _

theorem makeTry_of_full (hu : (s.duties[d]).duty = some u) (leave : Leave s d) (sound : ¬NamesLost s u.profile.patchList)
    (full : 8 ≤ s.queue.length) : makeTry d s = withRun d (u.run.enter .blocked) s := by
  have shut : admits s.queue .duty = false := by
    rw [← Bool.not_eq_true, admits_duty]
    omega
  rw [makeTry, duty?_eq hu]
  dsimp only
  rw [dutyLeave_iff.2 leave, not_namesLost_iff.2 sound, shut]
  exact updRun_eq_withRun hu _

/-- Settles O46: the four cases of a try. -/
theorem try_defers_suspends_queues_or_blocks : Obligations.Try_defers_suspends_queues_or_blocks := fun _ _ _ hu =>
  ⟨makeTry_of_no_leave hu, makeTry_of_lost hu, makeTry_of_room hu, makeTry_of_full hu⟩

/-! ### The start of a run (R107, R108) -/

/-- The run-time state at the start of a run, before its first try. -/
def Duty.begun (u : Duty) : DutyRun :=
  u.run.begin (if u.run.firstRun then u.profile.startupTries else u.profile.runTries) u.profile.counterInc

theorem startRun_of_used (hu : (s.duties[d]).duty = some u) : startRun d s = makeTry d (withRun d u.begun s) := by
  rw [startRun, duty?_eq hu]
  exact congrArg (makeTry d) (updRun_eq_withRun hu _)

theorem beginRun_of_unused (h : (s.duties[d]).duty = none) : beginRun d s = s := by
  have absent : duty? s d = none := h
  rw [beginRun, absent]

theorem beginRun_of_no_leave (hu : (s.duties[d]).duty = some u) (no : ¬Leave s d) :
    beginRun d s = withRun d (u.run.defer .newRun) s := by
  rw [← dutyLeave_iff, Bool.not_eq_true] at no
  rw [beginRun, duty?_eq hu]
  dsimp only
  rw [no]
  exact updRun_eq_withRun hu _

theorem beginRun_of_lost (hu : (s.duties[d]).duty = some u) (leave : Leave s d) (lost : NamesLost s u.profile.patchList) :
    beginRun d s = withRun d u.run.loseAddress s := by
  rw [beginRun, duty?_eq hu]
  dsimp only
  rw [dutyLeave_iff.2 leave, namesLost_iff.2 lost]
  exact updRun_eq_withRun hu _

theorem beginRun_of_leave (hu : (s.duties[d]).duty = some u) (leave : Leave s d) (sound : ¬NamesLost s u.profile.patchList) :
    beginRun d s = makeTry d (withRun d u.begun s) := by
  rw [beginRun, duty?_eq hu]
  dsimp only
  rw [dutyLeave_iff.2 leave, not_namesLost_iff.2 sound]
  exact startRun_of_used hu

/-! ### The end of a run (R118 to R126) -/

theorem DutyRun.afterRun_eq (p : DutyProfile) (r : DutyRun) : r.afterRun p = rescheduled p r := by
  rw [rescheduled, Nat.mul_comm]
  rfl

theorem DutyRun.capture_eq (c : Capture) (f : Frame) (r : DutyRun) :
    r.capture c f =
      if f.length < c.offset + c.width then r
      else
        match c.target with
        | .counter => { r with
            lastCapture := some (natOfBytes ((f.drop c.offset).take c.width))
            counter := BitVec.ofNat 32 (natOfBytes ((f.drop c.offset).take c.width)) }
        | .interval n lo hi => { r with
            lastCapture := some (natOfBytes ((f.drop c.offset).take c.width))
            capturedInterval := some (capturedSeconds (natOfBytes ((f.drop c.offset).take c.width)) n lo hi) } := by
  unfold DutyRun.capture field?
  by_cases short : f.length < c.offset + c.width
  · rw [if_neg (Nat.not_le.2 short), if_pos short]
  · rw [if_pos (Nat.le_of_not_lt short), if_neg short]
    cases c.target <;> rfl

/-- The success of a run by a reply frame (R118). -/
theorem DutyRun.succeed_of_reply (p : DutyProfile) (f : Frame) (r : DutyRun) :
    r.succeed p (some f) = rescheduled p (captured p f (succeeded r)) := by
  unfold DutyRun.succeed captured
  cases hc : p.capture with
  | none => exact DutyRun.afterRun_eq p _
  | some c =>
    dsimp only
    rw [DutyRun.afterRun_eq, DutyRun.capture_eq]
    cases c.target <;> rfl

/-- The success of a run that expects no reply (R111). -/
theorem DutyRun.succeed_of_none (p : DutyProfile) (r : DutyRun) : r.succeed p none = rescheduled p (succeeded r) := by
  unfold DutyRun.succeed
  cases hc : p.capture <;> exact DutyRun.afterRun_eq p _

theorem succeedRun_of_used (hu : (s.duties[d]).duty = some u) (f : Option Frame) :
    succeedRun d f s = withRun d (u.run.succeed u.profile f) s := by
  rw [succeedRun, duty?_eq hu]
  exact updRun_eq_withRun hu _

theorem failureAction_of_used (hu : (s.duties[d]).duty = some u) :
    failureAction d s = withRun d (failedRun u.profile u.run) (failureWeight u.profile s) := by
  rw [failureAction, duty?_eq hu]
  unfold failedRun failureWeight
  dsimp only
  cases hf : u.profile.failure with
  | wake lane w =>
    have kept : ((addWeight lane w s).duties[d]).duty = some u := by rw [addWeight_duties]; exact hu
    exact updRun_eq_withRun kept _
  | suspend => exact updRun_eq_withRun hu _
  | continueRuns =>
    rw [← DutyRun.afterRun_eq]
    exact updRun_eq_withRun hu _

theorem failureWeight_withRun (p : DutyProfile) (r : DutyRun) (s : State) :
    failureWeight p (withRun d r s) = withRun d r (failureWeight p s) := by
  unfold failureWeight
  split
  · exact addWeight_withRun _ _ r s
  · rfl

end Sys2Proof.Machine
end

section
/-! SUPPORT. Failed tries and rounds, the probe's failure, and the timers of the duties, by case; then the obligations O47
and O48. -/

namespace Sys2Proof.Machine

variable {s t : State} {d : Fin 12} {u : Duty} {r : DutyRun} {p : DutyProfile} {g : Signature}

/-! ### What a change of a duty's run leaves -/

theorem leave_withRun {e : Fin 12} : Leave (withRun d r s) e ↔ Leave s e := by
  rw [Leave, withRun_probe]
  rfl

/-- A change of every run that changes none. -/
theorem mapRuns_of_still {f : Fin 12 → DutySlot → DutyRun → DutyRun}
    (h : ∀ e : Fin 12, ∀ x ∈ (s.duties[e]).duty, f e s.duties[e] x.run = x.run) : mapRuns f s = s := by
  have same : (mapRuns f s).duties = s.duties := by
    refine Vector.ext fun k hk => ?_
    have here := h ⟨k, hk⟩
    simp only [Fin.getElem_fin] at here
    simp only [mapRuns, Vector.getElem_ofFn, Fin.getElem_fin]
    cases hd : s.duties[k].duty with
    | none => rw [Option.map_none, ← hd]
    | some x => rw [Option.map_some, here x hd, ← hd]
  calc mapRuns f s = { s with duties := (mapRuns f s).duties } := rfl
    _ = s := by rw [same]

/-- An addition reads no duty and changes none. -/
theorem addWeight_setDuties (j : Fin 8) (w : Nat) (v : Vector DutySlot 12) (s : State) :
    addWeight j w { s with duties := v } = { addWeight j w s with duties := v } := by
  have same : WakeEq s { s with duties := v } := by constructor <;> rfl
  rw [addWeight_of_wakeEq j w same, (addWeight_onlyWake j w s).eq]

/-! ### Entry into FOREIGN (R130, R145) -/

theorem DutyRun.loseLeave_eq (r : DutyRun) : r.loseLeave = withoutLeave r := by
  obtain ⟨state⟩ := r
  cases state <;> rfl

theorem enterForeign_eq (hg : s.signature = some g) :
    enterForeign s = mapRuns (fun _ slot r => if hasLeave s.net slot.probe then r.loseLeave else r)
      (addWeight g.lane g.weight { s with net := .foreign }) := by
  rw [enterForeign, hg]

/-- The probe alone holds leave in CHECKING, and once DEFERRED it has nothing to lose (R142, R143). -/
theorem probeForeign_of_checking (hu : (s.duties[d]).duty = some u) (hg : s.signature = some g) (checking : s.net = .checking)
    (only : ∀ e : Fin 12, (s.duties[e]).probe = true → e = d) :
    probeForeign d s = addWeight g.lane g.weight (withRun d (u.run.defer .newRun) { s with net := .foreign }) := by
  have signed : (withRun d (u.run.defer .newRun) s).signature = some g := hg
  have duties : (addWeight g.lane g.weight { withRun d (u.run.defer .newRun) s with net := .foreign }).duties =
      (withRun d (u.run.defer .newRun) s).duties := by rw [addWeight_duties]
  rw [probeForeign, updRun_eq_withRun hu, enterForeign_eq signed, mapRuns_of_still]
  · rfl
  intro e x hx
  rw [duties] at hx ⊢
  have net : (withRun d (u.run.defer .newRun) s).net = .checking := checking
  rw [withRun_probe, net]
  by_cases same : e = d
  · subst same
    rw [withRun_duty hu, Option.mem_def, Option.some.injEq] at hx
    rw [← hx]
    split <;> rfl
  · have flag : (s.duties[e]).probe = false := by simpa using fun set => same (only e set)
    rw [flag]
    rfl

theorem NetInv.only_probe (h : NetInv s) (flag : (s.duties[d]).probe = true) :
    ∀ e : Fin 12, (s.duties[e]).probe = true → e = d := by
  intro e he
  obtain ⟨g, hg, is⟩ := (h.flags d).1 flag
  obtain ⟨k, hk, is'⟩ := (h.flags e).1 he
  rw [Option.mem_def] at hg hk
  rw [hg, Option.some.injEq] at hk
  rw [← is, ← is', hk]

/-! ### Failed tries and rounds (R115, R116) -/

theorem backoffFactor_eq : ∀ i : Fin 8, backoffFactor i = [1, 2, 3, 4, 6, 8, 12, 16].getD i.val 16 := by decide

theorem failTry_of_more (hu : (s.duties[d]).duty = some u) (more : u.run.triesUsed + 1 < u.run.triesAllowed) :
    failTry d s = makeTry d (withRun d { u.run with triesUsed := u.run.triesUsed + 1 } s) := by
  rw [failTry, duty?_eq hu]
  dsimp only
  rw [if_pos more, updRun_eq_withRun hu]

theorem failTry_of_last (hu : (s.duties[d]).duty = some u) (last : u.run.triesAllowed ≤ u.run.triesUsed + 1) :
    failTry d s = failRound d (withRun d { u.run with triesUsed := u.run.triesUsed + 1 } s) := by
  rw [failTry, duty?_eq hu]
  dsimp only
  rw [if_neg (Nat.not_lt.2 last), updRun_eq_withRun hu]

/-- The rounds limit is reached by the round that fails (R116). -/
def Limited (p : DutyProfile) (r : DutyRun) : Prop := p.roundsLimit ≠ 0 ∧ p.roundsLimit ≤ min (r.failedRounds + 1) 255

theorem not_limited_iff : ¬Limited p r ↔ p.roundsLimit = 0 ∨ satInc8 r.failedRounds < p.roundsLimit := by
  unfold Limited satInc8
  omega

/-- The probe in CHECKING (R132). -/
def Probing (s : State) (d : Fin 12) : Prop := s.net = .checking ∧ (s.duties[d]).probe = true

theorem failedRound_of_limited (h : Limited p r) :
    failedRound p r = { r with failedRounds := satInc8 r.failedRounds, lastOutcome := .exhausted, timer := none } := if_pos h

theorem failedRound_of_not_limited (h : ¬Limited p r) :
    failedRound p r = { r.enter .backoff with
      failedRounds := satInc8 r.failedRounds
      timer := some (p.backoffBase * backoffFactor p.backoffMul * 1000) } := by
  rw [backoffFactor_eq]
  exact if_neg h

/-- A failure action leaves no timer of the run as it was. -/
theorem failedRun_setTimer (p : DutyProfile) (r : DutyRun) (t : Timer) : failedRun p { r with timer := t } = failedRun p r := by
  unfold failedRun rescheduled
  cases p.failure with
  | wake => rfl
  | suspend => rfl
  | continueRuns => rfl

theorem probing_withRun {e : Fin 12} : Probing (withRun d r s) e ↔ Probing s e := by
  rw [Probing, withRun_probe]
  rfl

theorem failRound_withRun_of_backoff (hu : (s.duties[d]).duty = some u) (others : ¬Probing s d) (free : ¬Limited u.profile r) :
    failRound d (withRun d r s) = withRun d (failedRound u.profile r) s := by
  rw [failRound, duty?_eq (withRun_duty hu r)]
  dsimp only
  rw [if_neg fun h => others (probing_withRun.1 (probing_iff.1 h)), if_pos (not_limited_iff.1 free), updRun_withRun,
    failedRound_of_not_limited free]

theorem failRound_withRun_of_limited (hu : (s.duties[d]).duty = some u) (others : ¬Probing s d) (limited : Limited u.profile r) :
    failRound d (withRun d r s) =
      withRun d (failedRun u.profile (failedRound u.profile r)) (failureWeight u.profile s) := by
  have reached : ¬(u.profile.roundsLimit = 0 ∨ satInc8 r.failedRounds < u.profile.roundsLimit) :=
    fun h => not_limited_iff.2 h limited
  rw [failRound, duty?_eq (withRun_duty hu r)]
  dsimp only
  rw [if_neg fun h => others (probing_withRun.1 (probing_iff.1 h)), if_neg reached, updRun_withRun,
    failureAction_of_used (withRun_duty hu _), failureWeight_withRun, withRun_withRun, failedRound_of_limited limited]
  exact congrArg (fun r => withRun d r _) (failedRun_setTimer u.profile _ none).symm

/-- The probe's round fails in CHECKING (R143). -/
theorem failRound_withRun_of_checking (hu : (s.duties[d]).duty = some u) (hg : s.signature = some g) (probes : Probing s d)
    (only : ∀ e : Fin 12, (s.duties[e]).probe = true → e = d) :
    failRound d (withRun d r s) = addWeight g.lane g.weight (withRun d
      { r.defer .newRun with failedRounds := 1, lastOutcome := .exhausted } { s with net := .foreign }) := by
  rw [failRound, duty?_eq (withRun_duty hu r)]
  dsimp only
  rw [if_pos (probing_iff.2 (probing_withRun.2 probes)), updRun_withRun, probeForeign_of_checking (withRun_duty hu _) hg probes.1
    (fun e he => only e (by rwa [withRun_probe] at he))]
  exact congrArg (addWeight g.lane g.weight) (withRun_withRun _ _ { s with net := .foreign })

/-! ### Expiries -/

theorem expireDutyTimer_of_waiting (hu : (s.duties[d]).duty = some u) (active : s.active = true) (waiting : u.run.state = .waiting)
    (runs : u.run.timer.isSome = true) : expireDutyTimer d s = beginRun d (withRun d { u.run with timer := none } s) := by
  rw [expireDutyTimer, duty?_eq hu]
  dsimp only
  rw [if_pos (by simp [active, waiting, runs]), updRun_eq_withRun hu]

theorem expireReplyWindow_of_awaiting (hu : (s.duties[d]).duty = some u) (active : s.active = true)
    (awaiting : u.run.state = .awaiting) (runs : u.run.timer.isSome = true) :
    expireReplyWindow d s = failTry d (withRun d { u.run with timer := none } s) := by
  rw [expireReplyWindow, duty?_eq hu]
  dsimp only
  rw [if_pos (by simp [active, awaiting, runs]), updRun_eq_withRun hu]

theorem expireBackoff_of_backoff (hu : (s.duties[d]).duty = some u) (active : s.active = true) (backoff : u.run.state = .backoff)
    (runs : u.run.timer.isSome = true) :
    expireBackoff d s = makeTry d (withRun d { u.run with triesUsed := 0, timer := none } s) := by
  rw [expireBackoff, duty?_eq hu]
  dsimp only
  rw [if_pos (by simp [active, backoff, runs]), updRun_eq_withRun hu]

theorem exec_dutyTimerExpiry : exec (.dutyTimerExpiry d) s = .next (startTransmit (expireDutyTimer d s)) := rfl

theorem exec_replyWindowExpiry : exec (.replyWindowExpiry d) s = .next (startTransmit (expireReplyWindow d s)) := rfl

theorem exec_backoffExpiry : exec (.backoffExpiry d) s = .next (startTransmit (expireBackoff d s)) := rfl

/-- An event that leaves a served queue alone sends nothing. -/
theorem next_startTransmit_of_served (served : Served s) (h : t.queue = s.queue) :
    (Host.Outcome.next (startTransmit t) : Host.Outcome State Fault Refusal) = .next t :=
  congrArg Host.Outcome.next (served.startTransmit_eq h)

/-- Settles O47: the cases of a run's start and of a try, after the timer is stopped. -/
theorem duty_timers_start_runs_and_rounds : Obligations.Duty_timers_start_runs_and_rounds := by
  intro s d u active served hu runs
  refine ⟨fun waiting => ?_, fun backoff => ?_⟩
  · have hu' := withRun_duty hu { u.run with timer := none }
    rw [exec_dutyTimerExpiry, expireDutyTimer_of_waiting hu active waiting runs]
    refine ⟨fun no => ?_, fun leave lost => ?_, fun leave sound => ?_⟩
    · rw [beginRun_of_no_leave hu' (fun h => no (leave_withRun.1 h)), withRun_withRun]
      exact next_startTransmit_of_served served rfl
    · rw [beginRun_of_lost hu' (leave_withRun.2 leave) lost, withRun_withRun]
      exact next_startTransmit_of_served served rfl
    · rw [beginRun_of_leave hu' (leave_withRun.2 leave) sound, withRun_withRun, ← BitVec.ofNat_toNat]
      rfl
  · have hu' := withRun_duty hu { u.run with triesUsed := 0, timer := none }
    rw [exec_backoffExpiry, expireBackoff_of_backoff hu active backoff runs]
    refine ⟨fun _ => rfl, fun no => ?_⟩
    rw [makeTry_of_no_leave hu' (fun h => no (leave_withRun.1 h)), withRun_withRun]
    exact next_startTransmit_of_served served rfl

theorem failureWeight_queue (p : DutyProfile) (s : State) : (failureWeight p s).queue = s.queue := by
  unfold failureWeight
  split
  · exact addWeight_queue _ _ s
  · rfl

/-- The run-time state once the try that the expired window ends is counted (R115). -/
def Duty.tried (u : Duty) : DutyRun := { u.run with triesUsed := u.run.triesUsed + 1, timer := none }

/-- Settles O48: the cases of a failed try and a failed round, after the reply window is stopped. -/
theorem window_expiry_counts_tries_and_rounds : Obligations.Window_expiry_counts_tries_and_rounds := by
  intro s d u active served net hu awaiting runs
  dsimp only
  have hu' := withRun_duty hu { u.run with timer := none }
  rw [exec_replyWindowExpiry, expireReplyWindow_of_awaiting hu active awaiting runs]
  refine ⟨fun more => ?more, fun last others free => ?backoff, fun last others limited => ?limited,
    fun g last probes hg => ?probe⟩
  case more => rw [failTry_of_more hu' more, withRun_withRun]
  all_goals
    have fails : failTry d (withRun d { u.run with timer := none } s) = failRound d (withRun d u.tried s) :=
      (failTry_of_last hu' last).trans (congrArg (failRound d) (withRun_withRun _ u.tried s))
    rw [fails]
  case backoff =>
    rw [failRound_withRun_of_backoff (r := u.tried) hu others free, failedRound_of_not_limited (r := u.tried) free, backoffFactor_eq]
    exact next_startTransmit_of_served served rfl
  case limited =>
    rw [failRound_withRun_of_limited (r := u.tried) hu others limited, failedRound_of_limited (r := u.tried) limited]
    exact next_startTransmit_of_served served (failureWeight_queue u.profile s)
  case probe =>
    rw [failRound_withRun_of_checking hu hg probes (net.only_probe probes.2)]
    exact next_startTransmit_of_served served (addWeight_queue _ _ _)

end Sys2Proof.Machine
end

section
/-! SUPPORT. A transmit result, by case, and the offer of free places in ascending id; then the obligations O51, O52 and O53. -/

namespace Sys2Proof.Machine

variable {s t : State} {d : Fin 12} {u : Duty} {r : DutyRun} {p : DutyProfile} {g : Signature}

/-! ### Taking the entry in flight out -/

theorem completeTransmit_of_silent (result : TxResult) (h : someInFlight s.queue = false) : completeTransmit result s = s := by
  rw [completeTransmit, takeInFlight_none.2 h]
  exact ite_self s

theorem completeTransmit_of_still (result : TxResult) (h : s.proxy = .idle ∨ s.proxy = .report) : completeTransmit result s = s := by
  have deaf : (s.active || s.proxy == .handback) = false := by rcases h with h | h <;> simp [State.active, h]
  rw [completeTransmit, deaf]
  rfl

theorem exec_transmitResult_of_active {before rest : List TxEntry} {e : TxEntry} (result : TxResult) (active : s.active = true)
    (hq : s.queue = before ++ e :: rest) (still : ∀ x ∈ before, x.inFlight = false) (flight : e.inFlight = true) :
    exec (.transmitResult result) s =
      .next (startTransmit (arbiter (handResult e.origin result { s with queue := before ++ rest }))) := by
  have heard : (s.active || s.proxy == .handback) = true := by simp [active]
  have away : (s.proxy == .handback) = false := by simpa using not_handback_of_active active
  change Host.Outcome.next (completeTransmit result s) = _
  rw [completeTransmit, if_pos heard, hq, takeInFlight_append before rest e still flight]
  dsimp only
  rw [away]
  rfl

/-- Settles O51: with nothing in flight, or in a state that does not listen, a result finds no entry; an answer's is counted. -/
theorem transmit_result_completes_an_answer : Obligations.Transmit_result_completes_an_answer := by
  refine ⟨fun s result quiet _ => congrArg Host.Outcome.next ?_, fun s before rest e i active hq still flight origin => ?_⟩
  · rcases quiet with idle | report | silent
    · exact completeTransmit_of_still result (.inl idle)
    · exact completeTransmit_of_still result (.inr report)
    · exact completeTransmit_of_silent result silent
  · have result := fun x => exec_transmitResult_of_active x active hq still flight
    rw [origin] at result
    exact ⟨result .sent, result .refused⟩

/-! ### A duty's result (R111, R112) -/

theorem handResult_duty (result : TxResult) (active : s.active = true) : handResult (.duty d) result s = dutyResult d result s :=
  if_pos active

theorem dutyResult_of_void (hu : (s.duties[d]).duty = some u) (queued : u.run.state = .queued) (void : u.run.void = true)
    (result : TxResult) : dutyResult d result s = makeTry d (withRun d { u.run with void := false } s) := by
  rw [dutyResult, duty?_eq hu]
  dsimp only
  rw [if_neg (by simp [queued]), if_pos void, updRun_eq_withRun hu]

theorem dutyResult_of_refused (hu : (s.duties[d]).duty = some u) (queued : u.run.state = .queued) (valid : u.run.void = false) :
    dutyResult d .refused s = failTry d s := by
  rw [dutyResult, duty?_eq hu]
  dsimp only
  rw [if_neg (by simp [queued]), if_neg (by simp [valid])]

theorem dutyResult_of_sent (hu : (s.duties[d]).duty = some u) (queued : u.run.state = .queued) (valid : u.run.void = false)
    (reply : u.profile.reply.isSome = true) :
    dutyResult d .sent s = withRun d { u.run.enter .awaiting with timer := some u.profile.replyWindow } s := by
  rw [dutyResult, duty?_eq hu]
  dsimp only
  rw [if_neg (by simp [queued]), if_neg (by simp [valid]), if_pos reply, updRun_eq_withRun hu]

theorem dutyResult_of_unanswered (hu : (s.duties[d]).duty = some u) (queued : u.run.state = .queued) (valid : u.run.void = false)
    (noReply : u.profile.reply = none) :
    dutyResult d .sent s = withRun d (rescheduled u.profile (succeeded u.run)) s := by
  rw [dutyResult, duty?_eq hu]
  dsimp only
  rw [if_neg (by simp [queued]), if_neg (by simp [valid]), if_neg (by simp [noReply]), succeedRun_of_used hu,
    DutyRun.succeed_of_none]

/-- Settles O52: the cases of a duty's result, each the run-time state the statement gives. -/
theorem transmit_result_moves_a_duty : Obligations.Transmit_result_moves_a_duty := by
  intro s before rest e d u result active hq still flight origin hu queued
  have completes : ∀ x, exec (.transmitResult x) s =
      .next (startTransmit (arbiter (dutyResult d x { s with queue := before ++ rest }))) := by
    intro x
    rw [exec_transmitResult_of_active x active hq still flight, origin, handResult_duty]
    exact active
  have hl : ({ s with queue := before ++ rest }.duties[d]).duty = some u := hu
  refine ⟨fun void => ?void, fun valid => ?valid⟩
  case void => rw [completes, dutyResult_of_void hl queued void]
  case valid =>
    have kept : ({ u.run with void := false } : DutyRun) = u.run := by rw [← valid]
    refine ⟨fun reply => ?sent, fun noReply => ?unanswered, fun more => ?more, fun last => ⟨fun others free => ?backoff,
      fun others limited => ?limited, fun g net probes hg => ?probe⟩⟩
    case sent =>
      rw [completes, dutyResult_of_sent hl queued valid reply]
      conv_rhs => rw [← kept]
      rfl
    case unanswered => rw [completes, dutyResult_of_unanswered hl queued valid noReply]
    all_goals rw [completes, dutyResult_of_refused hl queued valid]
    case more => rw [failTry_of_more hl more]
    all_goals rw [failTry_of_last hl last]
    case backoff =>
      rw [failRound_withRun_of_backoff (r := { u.run with triesUsed := u.run.triesUsed + 1 }) hl others free]
    case limited =>
      rw [failRound_withRun_of_limited (r := { u.run with triesUsed := u.run.triesUsed + 1 }) hl others limited]
    case probe =>
      rw [failRound_withRun_of_checking hl hg probes (net.only_probe probes.2)]
      conv_rhs => rw [← kept]
      rfl

/-! ### A walk over all duties in ascending id -/

theorem foldl_of_still {α : Type} {f : State → α → State} {l : List α} (h : ∀ k ∈ l, f s k = s) : l.foldl f s = s := by
  induction l with
  | nil => rfl
  | cons k l ih =>
    rw [List.foldl_cons, h k List.mem_cons_self]
    exact ih fun j hj => h j (List.mem_cons_of_mem k hj)

theorem finRange_split (d : Fin 12) : List.finRange 12 = (List.finRange 12).take d ++ d :: (List.finRange 12).drop (d + 1) := by
  have inside : d.val < (List.finRange 12).length := by simp
  have here := List.drop_eq_getElem_cons inside
  rw [List.getElem_finRange] at here
  have whole := List.take_append_drop d.val (List.finRange 12)
  rw [here] at whole
  exact whole.symm

theorem lt_of_mem_take {k : Fin 12} (h : k ∈ (List.finRange 12).take d) : k < d := by
  obtain ⟨i, hi, rfl⟩ := List.mem_take_iff_getElem.1 h
  rw [List.getElem_finRange]
  exact hi.trans_le (Nat.min_le_left _ _)

/-- A walk that nothing below `d` acts in is the step of `d` and the walk of the rest. -/
theorem walk_from (f : State → Fin 12 → State) (low : ∀ k, k < d → f s k = s) :
    (List.finRange 12).foldl f s = ((List.finRange 12).drop (d + 1)).foldl f (f s d) := by
  conv_lhs => rw [finRange_split d]
  rw [List.foldl_append, foldl_of_still fun k hk => low k (lt_of_mem_take hk), List.foldl_cons]

/-- When nothing up to `d` acts after the step of `d`, the walk is that step and the walk from the start. -/
theorem walk_again (f : State → Fin 12 → State) (low : ∀ k, k < d → f s k = s) (done : ∀ k, k ≤ d → f (f s d) k = f s d) :
    (List.finRange 12).foldl f s = (List.finRange 12).foldl f (f s d) := by
  rw [walk_from f low, walk_from (s := f s d) f fun k hk => done k hk.le, done d le_rfl]

/-! ### A free place (R90, R110) -/

theorem isBlocked_iff : isBlocked s d = true ↔ ∃ x ∈ (s.duties[d]).duty, x.run.state = .blocked := by
  simp [isBlocked, duty?, Option.any_eq_true]

theorem isBlocked_eq_false : isBlocked s d = false ↔ ∀ x ∈ (s.duties[d]).duty, x.run.state ≠ .blocked := by
  rw [← Bool.not_eq_true, isBlocked_iff]
  simp

theorem isBlocked_withRun_ne {k : Fin 12} (h : d ≠ k) (r : DutyRun) : isBlocked (withRun d r s) k = isBlocked s k := by
  rw [isBlocked, duty?, withRun_duties_ne h]
  rfl

theorem isBlocked_withRun_self (hu : (s.duties[d]).duty = some u) (h : r.state ≠ .blocked) :
    isBlocked (withRun d r s) d = false := by
  rw [isBlocked_eq_false, withRun_duty hu]
  intro x hx
  rw [Option.mem_def, Option.some.injEq] at hx
  rw [← hx]
  exact h

theorem offerTo_of_blocked {len : Nat} (blocked : isBlocked s d = true) (room : s.queue.length ≤ len) :
    offerTo len s d = makeTry d s := by
  rw [offerTo, blocked, decide_eq_true room]
  rfl

theorem offerTo_of_taken {len : Nat} (k : Fin 12) (taken : len < s.queue.length) : offerTo len s k = s := by
  rw [offerTo, decide_eq_false (Nat.not_le.2 taken), Bool.and_false]
  rfl

theorem offerPlace_of_room (room : s.queue.length < 8) :
    offerPlace s = (List.finRange 12).foldl (offerTo s.queue.length) s := if_pos room

theorem offerPlace_of_full (full : 8 ≤ s.queue.length) : offerPlace s = s := if_neg (Nat.not_lt.2 full)

/-- The lowest BLOCKED duty takes the place: the offer ends. -/
theorem offerPlace_of_takes (room : s.queue.length < 8) (low : ∀ k, k < d → isBlocked s k = false)
    (blocked : isBlocked s d = true) (takes : s.queue.length < (makeTry d s).queue.length) : offerPlace s = makeTry d s := by
  rw [offerPlace_of_room room, walk_from _ (fun k hk => offerTo_of_not_blocked _ s k (low k hk)),
    offerTo_of_blocked blocked le_rfl]
  exact foldl_of_still fun k _ => offerTo_of_taken k takes

/-- The lowest BLOCKED duty declines the place: it goes on from the start. -/
theorem offerPlace_of_declines (hu : (s.duties[d]).duty = some u) (room : s.queue.length < 8)
    (low : ∀ k, k < d → isBlocked s k = false) (blocked : isBlocked s d = true) (declines : makeTry d s = withRun d r s)
    (leaves : r.state ≠ .blocked) : offerPlace s = offerPlace (withRun d r s) := by
  have step : offerTo s.queue.length s d = withRun d r s := (offerTo_of_blocked blocked le_rfl).trans declines
  rw [offerPlace_of_room room, offerPlace_of_room (s := withRun d r s) room,
    walk_again (d := d) _ (fun k hk => offerTo_of_not_blocked _ s k (low k hk)), step]
  · rfl
  intro k hk
  rw [step]
  refine offerTo_of_not_blocked _ _ k ?_
  rcases hk.lt_or_eq with lt | rfl
  · rw [isBlocked_withRun_ne lt.ne']
    exact low k lt
  · exact isBlocked_withRun_self hu leaves

/-- The arbiter is the offer of one place, and the arbiter again (R90). -/
theorem arbiter_of_room {n : Nat} (h : 8 - s.queue.length = n + 1) : arbiter s = offerPlaces n (offerPlace s) := by
  have places : Config.queueLimit - s.queue.length = n + 1 := h
  rw [arbiter, places]
  rfl

theorem arbiter_of_full (full : 8 ≤ s.queue.length) : arbiter s = s := by
  have places : Config.queueLimit - s.queue.length = 0 := Nat.sub_eq_zero_of_le full
  rw [arbiter, places]
  rfl

/-- What the try of a BLOCKED duty with a place free comes to: it takes the place, or declines it. -/
theorem try_takes_or_declines (hu : (s.duties[d]).duty = some u) (room : s.queue.length < 8) :
    (makeTry d s).queue.length = s.queue.length + 1 ∨
      ∃ r : DutyRun, makeTry d s = withRun d r s ∧ r.state ≠ .blocked := by
  by_cases leave : Leave s d
  · by_cases lost : NamesLost s u.profile.patchList
    · exact .inr ⟨_, makeTry_of_lost hu leave lost, nofun⟩
    · exact .inl (by rw [makeTry_of_room hu leave lost room]; exact List.length_append)
  · exact .inr ⟨_, makeTry_of_no_leave hu leave, nofun⟩

/-- With a place free the arbiter makes the lowest BLOCKED duty's try, and goes on (R110). -/
theorem arbiter_of_lowest (hu : (s.duties[d]).duty = some u) (room : s.queue.length < 8)
    (low : ∀ k, k < d → isBlocked s k = false) (blocked : isBlocked s d = true) : arbiter s = arbiter (makeTry d s) := by
  obtain ⟨n, hn⟩ : ∃ n, 8 - s.queue.length = n + 1 := ⟨7 - s.queue.length, by omega⟩
  rcases try_takes_or_declines hu room with takes | ⟨r, declines, leaves⟩
  · have left : Config.queueLimit - (makeTry d s).queue.length = n := by
      rw [takes, Config.queueLimit]
      omega
    rw [arbiter_of_room hn, offerPlace_of_takes room low blocked (by omega), arbiter, left]
  · rw [arbiter_of_room hn, offerPlace_of_declines hu room low blocked declines leaves, declines]
    exact (arbiter_of_room (s := withRun d r s) hn).symm

theorem exec_blockedDutyAdmit_of_active (active : s.active = true) :
    exec .blockedDutyAdmit s = .next (startTransmit (offerPlace s)) := congrArg Host.Outcome.next (if_pos active)

theorem exec_frameToSend : exec .frameToSend s = .next (startTransmit s) := rfl

theorem startTransmit_of_cons {e : TxEntry} {rest : List TxEntry} (active : s.active = true) (hq : s.queue = e :: rest)
    (silent : someInFlight s.queue = false) :
    startTransmit s =
      { s with queue := { e with inFlight := true } :: rest, portOut := s.portOut ++ [.frameToSend e.frame] } := by
  rcases startTransmit_cases s with same | ⟨x, l, -, -, hx, e'⟩
  · have served := startTransmit_served s (.inl active)
    rw [same, hq] at served
    rw [hq] at silent
    exact absurd (served silent) (List.cons_ne_nil _ _)
  · rw [hq, List.cons.injEq] at hx
    rw [e', hx.1, hx.2]

/-- Settles O53: the hand-over of the head entry, and the walk over the BLOCKED duties from the lowest. -/
theorem queue_hands_over_frames_and_places : Obligations.Queue_hands_over_frames_and_places := by
  refine ⟨fun s e rest active hq silent => ?launch, fun s => ⟨rfl, fun quiet => ?still⟩, fun s active none => ?nothing,
    fun s d u active room hu blocked low => ?offer⟩
  case launch => rw [exec_frameToSend, startTransmit_of_cons active hq silent]
  case still =>
    rcases quiet with empty | flight
    · exact startTransmit_of_nil s empty
    · exact startTransmit_of_inFlight s flight
  case nothing =>
    rw [exec_blockedDutyAdmit_of_active active]
    rcases none with full | unblocked
    · rw [offerPlace_of_full full]
      exact ⟨arbiter_of_full full, rfl⟩
    · have none : ∀ k, isBlocked s k = false := fun k => isBlocked_eq_false.2 (unblocked k)
      rw [offerPlace_of_not_blocked s none]
      exact ⟨arbiter_of_not_blocked s none, rfl⟩
  case offer =>
    have lowest : ∀ k, k < d → isBlocked s k = false := fun k hk => isBlocked_eq_false.2 (low k hk)
    have waits : isBlocked s d = true := isBlocked_iff.2 ⟨u, hu, blocked⟩
    refine ⟨arbiter_of_lowest hu room lowest waits, fun leave sound => ?_, fun no => ?_, fun leave lost => ?_⟩
    · have tried := makeTry_of_room hu leave sound room
      have longer : (makeTry d s).queue.length = s.queue.length + 1 := by
        rw [tried]
        exact List.length_append
      rw [exec_blockedDutyAdmit_of_active active, offerPlace_of_takes room lowest waits (by omega), tried]
      rfl
    · have declines := offerPlace_of_declines hu room lowest waits (makeTry_of_no_leave hu no) nofun
      have on : (withRun d (u.run.defer .try_) s).active = true := active
      rw [exec_blockedDutyAdmit_of_active active, declines, ← exec_blockedDutyAdmit_of_active on]
      rfl
    · have declines := offerPlace_of_declines hu room lowest waits (makeTry_of_lost hu leave lost) nofun
      have on : (withRun d (u.run.loseAddress) s).active = true := active
      rw [exec_blockedDutyAdmit_of_active active, declines, ← exec_blockedDutyAdmit_of_active on]
      rfl

end Sys2Proof.Machine
end

section
/-! SUPPORT. A frame that a duty consumes, and a frame a CLAIM rule matches; then the obligations O42 to O45. -/

namespace Sys2Proof.Machine

variable {s t : State} {frame f : Frame} {c : DestClass} {d : Fin 12} {u : Duty} {r : DutyRun} {p : DutyProfile} {g : Signature}

/-! ### Fields of a frame compared with values -/

theorem natOfBytes_inj {as bs : List Byte} (length : as.length = bs.length) (same : natOfBytes as = natOfBytes bs) : as = bs := by
  induction as generalizing bs with
  | nil => exact (List.eq_nil_of_length_eq_zero length.symm).symm
  | cons a as ih =>
    cases bs with
    | nil => cases length
    | cons b bs =>
      have rest : as.length = bs.length := Nat.succ.inj length
      rw [natOfBytes_cons, natOfBytes_cons, rest] at same
      have small := natOfBytes_lt as
      have small' := natOfBytes_lt bs
      rw [rest] at small
      have positive : 0 < 256 ^ bs.length := Nat.pow_pos (by decide)
      have head : a.toNat = b.toNat := by
        have left := Nat.add_mul_div_right (natOfBytes as) a.toNat positive
        have right := Nat.add_mul_div_right (natOfBytes bs) b.toNat positive
        rw [Nat.div_eq_of_lt small] at left
        rw [Nat.div_eq_of_lt small'] at right
        rw [Nat.add_comm, same, Nat.add_comm] at left
        omega
      rw [BitVec.eq_of_toNat_eq head, ih rest (by rw [head] at same; omega)]

theorem slice_length {bs : List Byte} {off w : Nat} (h : off + w ≤ bs.length) : (slice bs off w).length = w := by
  simp only [slice, List.length_take, List.length_drop]
  omega

/-- A field read as a number is a value exactly when its bytes are the value's. -/
theorem readNat_eq_toNat_iff {n w off : Nat} {bs : List Byte} {v : BitVec n} (width : n ≤ 8 * w) (h : off + w ≤ bs.length) :
    readNat bs off w = v.toNat ↔ slice bs off w = bytesOfBits w v := by
  have small : v.toNat % 256 ^ w = v.toNat := by
    refine Nat.mod_eq_of_lt (v.isLt.trans_le ?_)
    calc 2 ^ n ≤ 2 ^ (8 * w) := Nat.pow_le_pow_right (by decide) width
      _ = 256 ^ w := by rw [Nat.pow_mul]
  have value : natOfBytes (bytesOfBits w v) = v.toNat := by rw [bytesOfBits, natOfBytes_bytesOfNat, small]
  refine ⟨fun same => natOfBytes_inj ?_ (same.trans value.symm), fun same => ?_⟩
  · rw [slice_length h, bytesOfBits_length]
  · rw [readNat, same, value]

theorem ofNat_readNat_eq_iff {n w off : Nat} {bs : List Byte} {v : BitVec n} (width : n = 8 * w) (h : off + w ≤ bs.length) :
    BitVec.ofNat n (readNat bs off w) = v ↔ slice bs off w = bytesOfBits w v := by
  have small : readNat bs off w < 2 ^ n := by
    rw [width, Nat.pow_mul]
    exact readNat_lt bs off w
  rw [← readNat_eq_toNat_iff width.le h, ← BitVec.toNat_inj, BitVec.toNat_ofNat, Nat.mod_eq_of_lt small]

theorem linkAddrAt_eq_iff {off : Nat} {a : LinkAddr} (h : off + 6 ≤ f.length) :
    linkAddrAt f off = a ↔ (f.drop off).take 6 = bytesOfBits 6 a := ofNat_readNat_eq_iff rfl h

/-! ### The frame consumed -/

theorem exec_receivedFrame_of_active (active : s.active = true) (frame : Frame) :
    exec (.receivedFrame frame) s = .next (startTransmit (classify frame s)) := by
  have heard : (s.active || s.proxy == .handback) = true := by simp [active]
  exact congrArg Host.Outcome.next (if_pos heard)

theorem Arrives.length (h : Arrives s frame f c) : 14 ≤ f.length := (normalise_length h.normal).1

theorem classify_offered (h : Arrives s frame f c) (hd : offeredDuty s f = some d) :
    classify frame s = consumeFrame d f (entered c s) := by
  rw [classify_active h]
  simp [classifyActive, countLoad_countReceived, hd]

theorem replyMatches_iff (hu : (s.duties[d]).duty = some u) :
    replyMatches s d f = true ↔ ∃ q, u.profile.reply = some q ∧ q.passes u.run.counter f = true := by
  rw [replyMatches, duty?_eq hu, Option.any_some, Option.any_eq_true]

theorem rejectMatches_iff (hu : (s.duties[d]).duty = some u) :
    rejectMatches s d f = true ↔ ∃ q, u.profile.reject = some q ∧ q.passes u.run.counter f = true := by
  rw [rejectMatches, duty?_eq hu, Option.any_some, Option.any_eq_true]

theorem consumeFrame_of_reply (h : replyMatches s d f = true) : consumeFrame d f s = takeReply d f s := if_pos h

theorem consumeFrame_of_reject (h : replyMatches s d f = false) : consumeFrame d f s = takeReject d s := if_neg (by simp [h])

/-- The source of a frame is the signature's gateway. -/
def FromGateway (s : State) (f : Frame) : Prop := ∃ g ∈ s.signature, (f.drop 6).take 6 = bytesOfBits 6 g.gateway

theorem fromGateway_iff (h : 14 ≤ f.length) :
    (s.signature.any fun g => g.gateway == linkAddrAt f 6) = true ↔ FromGateway s f := by
  have field : 6 + 6 ≤ f.length := by omega
  simp only [Option.any_eq_true, beq_iff_eq, eq_comm (b := linkAddrAt f 6), linkAddrAt_eq_iff field]
  rfl

theorem takeReply_of_plain (hu : (s.duties[d]).duty = some u) (others : ¬Probing s d)
    (plain : s.net ≠ .attached ∨ (s.duties[d]).probe = false ∨ s.signature = none ∨
      (s.signature.any fun g => g.gateway == linkAddrAt f 6) = true) :
    takeReply d f s = withRun d (rescheduled u.profile (captured u.profile f (succeeded u.run))) s := by
  rw [takeReply]
  dsimp only
  rw [if_neg fun h => others (probing_iff.1 h), succeedRun_of_used hu, DutyRun.succeed_of_reply, if_neg]
  rcases plain with net | flag | unsigned | gateway
  · simp [net]
  · have flag' : s.duties[d.val].probe = false := flag
    simp [flag']
  · simp [unsigned]
  · simp only [gateway]
    simp

theorem takeReply_of_gateway (hu : (s.duties[d]).duty = some u) (probes : Probing s d)
    (gateway : (s.signature.any fun g => g.gateway == linkAddrAt f 6) = true) :
    takeReply d f s = resumeDeferred
      (withRun d (rescheduled u.profile (captured u.profile f (succeeded u.run))) { s with net := .attached }) := by
  have hu' : ({ s with net := .attached }.duties[d]).duty = some u := hu
  rw [takeReply]
  dsimp only
  rw [if_pos (probing_iff.2 probes), if_pos gateway, succeedRun_of_used hu', DutyRun.succeed_of_reply]

theorem takeReply_of_stranger (probes : Probing s d)
    (stranger : (s.signature.any fun g => g.gateway == linkAddrAt f 6) = false) :
    takeReply d f s = probeForeign d s := by
  rw [takeReply]
  dsimp only
  rw [if_pos (probing_iff.2 probes), if_neg (by simp [stranger])]

theorem takeReply_of_attached_stranger (hu : (s.duties[d]).duty = some u) (attached : s.net = .attached)
    (flag : (s.duties[d]).probe = true) (hg : s.signature = some g)
    (stranger : (s.signature.any fun g => g.gateway == linkAddrAt f 6) = false) :
    takeReply d f s =
      enterForeign (withRun d (rescheduled u.profile (captured u.profile f (succeeded u.run))) s) := by
  have others : ¬Probing s d := fun h => nomatch attached.symm.trans h.1
  rw [takeReply]
  dsimp only
  rw [if_neg fun h => others (probing_iff.1 h), succeedRun_of_used hu, DutyRun.succeed_of_reply, if_pos]
  rw [stranger, flag, attached, hg]
  rfl

theorem takeReject_of_plain (hu : (s.duties[d]).duty = some u) (others : ¬Probing s d) :
    takeReject d s =
      withRun d (failedRun u.profile { u.run with lastOutcome := .rejected }) (failureWeight u.profile s) := by
  rw [takeReject]
  dsimp only
  rw [if_neg fun h => others (probing_iff.1 h), updRun_eq_withRun hu, failureAction_of_used (withRun_duty hu _),
    failureWeight_withRun, withRun_withRun]

theorem takeReject_of_probing (hu : (s.duties[d]).duty = some u) (probes : Probing s d) :
    takeReject d s = probeForeign d (withRun d { u.run with lastOutcome := .rejected } s) := by
  rw [takeReject]
  dsimp only
  rw [if_pos (probing_iff.2 probes), updRun_eq_withRun hu]

/-! ### The capture of a reply (R120 to R122) -/

section Capture

variable {cap : Capture}

theorem captured_of_none (h : p.capture = none) (f : Frame) (r : DutyRun) : captured p f r = r := by rw [captured, h]

theorem captured_of_short (h : p.capture = some cap) (short : f.length < cap.offset + cap.width) (r : DutyRun) :
    captured p f r = r := by
  rw [captured, h]
  exact if_pos short

theorem captured_of_counter (h : p.capture = some cap) (reach : cap.offset + cap.width ≤ f.length) (target : cap.target = .counter)
    (r : DutyRun) :
    captured p f r = { r with
      lastCapture := some (natOfBytes ((f.drop cap.offset).take cap.width))
      counter := BitVec.ofNat 32 (natOfBytes ((f.drop cap.offset).take cap.width)) } := by
  rw [captured, h]
  dsimp only
  rw [if_neg (Nat.not_lt.2 reach), target]

theorem captured_of_interval {n lo hi : Nat} (h : p.capture = some cap) (reach : cap.offset + cap.width ≤ f.length)
    (target : cap.target = .interval n lo hi) (order : lo ≤ hi) (r : DutyRun) :
    captured p f r = { r with
      lastCapture := some (natOfBytes ((f.drop cap.offset).take cap.width))
      capturedInterval := some (max lo (min hi (natOfBytes ((f.drop cap.offset).take cap.width) * n / 256))) } := by
  have clamp : ∀ q : Nat, (if q < lo then lo else if hi < q then hi else q) = max lo (min hi q) := by
    intro q
    split
    · omega
    · split <;> omega
  rw [captured, h]
  dsimp only
  rw [if_neg (Nat.not_lt.2 reach), target]
  dsimp only
  rw [clamp]

end Capture

/-- Settles O43: the reply is no probe's in CHECKING and no stranger's, so that the run succeeds; the capture by case. -/
theorem reply_ends_the_run_in_success : Obligations.Reply_ends_the_run_in_success := by
  intro s frame f c d u q h served attached hd hu hq passes source
  have others : ¬Probing (entered c s) d := fun probes => nomatch attached.symm.trans probes.1
  have consumed : classify frame s =
      withRun d (rescheduled u.profile (captured u.profile f (succeeded u.run))) (entered c s) := by
    rw [classify_offered h hd, consumeFrame_of_reply ((replyMatches_iff (s := entered c s) hu).2 ⟨q, hq, passes⟩)]
    refine takeReply_of_plain hu others ?_
    rcases source with flag | gateway
    · exact .inr (.inl flag)
    · cases hg : s.signature with
      | none => exact .inr (.inr (.inl hg))
      | some g => exact .inr (.inr (.inr ((fromGateway_iff h.length).2 ⟨g, hg, gateway g hg⟩)))
  have run := exec_receivedFrame_of_classify (.inl h.active) served consumed rfl
  refine ⟨fun none => ?_, fun cap hc => ⟨fun short => ?_, fun reach => ⟨fun target => ?_, fun n lo hi target order => ?_⟩⟩⟩
  · rw [run, captured_of_none none]
  · rw [run, captured_of_short hc short]
  · rw [run, captured_of_counter hc reach target]
  · rw [run, captured_of_interval hc reach target order]

/-- Settles O44: the reject is no probe's in CHECKING, so that the failure action follows. -/
theorem reject_ends_the_run_in_the_failure_action : Obligations.Reject_ends_the_run_in_the_failure_action := by
  intro s frame f c d u q h served attached hd hu hq passes noReply
  have others : ¬Probing (entered c s) d := fun probes => nomatch attached.symm.trans probes.1
  have silent : replyMatches (entered c s) d f = false := by
    rw [← Bool.not_eq_true, replyMatches_iff (s := entered c s) hu]
    rintro ⟨p, hp, passes⟩
    rw [noReply p hp] at passes
    cases passes
  refine exec_receivedFrame_of_classify (.inl h.active) served ?_ (failureWeight_queue u.profile (entered c s))
  rw [classify_offered h hd, consumeFrame_of_reject silent]
  exact takeReject_of_plain hu others

end Sys2Proof.Machine
end

section
/-! SUPPORT. The probe's result and the ruling on claims; then the obligations O42 and O45. -/

namespace Sys2Proof.Machine

variable {s t : State} {frame f : Frame} {c : DestClass} {d : Fin 12} {u : Duty} {r : DutyRun} {p : DutyProfile} {g : Signature}

/-! ### The first of a table's places -/

theorem find?_finRange_eq_some {n : Nat} {p : Fin n → Bool} {i : Fin n} :
    (List.finRange n).find? p = some i ↔ p i = true ∧ ∀ j, j < i → p j = false := by
  rw [List.find?_eq_some_iff_getElem]
  refine and_congr_right fun _ => ⟨fun ⟨k, hk, is, first⟩ j hj => ?_, fun first => ?_⟩
  · rw [List.getElem_finRange] at is
    have before : j.val < k := by
      rw [← is] at hj
      exact hj
    simpa using first j.val before
  · refine ⟨i.val, by simp, by simp, fun j hj => ?_⟩
    have := first ⟨j, hj.trans i.isLt⟩ hj
    simpa using this

/-! ### The probe is offered the frame -/

theorem isOffered_iff : isOffered s d = true ↔ Leave s d ∧ ∃ x ∈ (s.duties[d]).duty, x.run.state = .awaiting := by
  simp [isOffered, dutyLeave_iff, duty?, Option.any_eq_true]

theorem leave_of_checking (checking : s.net = .checking) : Leave s d ↔ (s.duties[d]).probe = true := by
  simp [Leave, checking]

/-- In CHECKING the awaiting probe is the one duty that frames are offered to (R29). -/
theorem offeredDuty_of_checking (hu : (s.duties[d]).duty = some u) (checking : s.net = .checking)
    (flag : (s.duties[d]).probe = true) (only : ∀ e : Fin 12, (s.duties[e]).probe = true → e = d) (awaiting : u.run.state = .awaiting)
    (hits : replyMatches s d f = true ∨ rejectMatches s d f = true) : offeredDuty s f = some d := by
  have offered : isOffered s d = true := isOffered_iff.2 ⟨(leave_of_checking checking).2 flag, u, hu, awaiting⟩
  refine find?_finRange_eq_some.2 ⟨by simpa [offered] using hits, fun k hk => ?_⟩
  have idle : isOffered s k = false := by
    rw [← Bool.not_eq_true, isOffered_iff, leave_of_checking checking]
    exact fun h => hk.ne (only k h.1)
  simp [idle]

theorem fromGateway_eq (hg : s.signature = some g) (h : 14 ≤ f.length) :
    (s.signature.any fun g => g.gateway == linkAddrAt f 6) = true ↔ (f.drop 6).take 6 = bytesOfBits 6 g.gateway := by
  rw [fromGateway_iff h, FromGateway, hg]
  simp

/-- Every run changed, and an addition: in either order. -/
theorem mapRuns_addWeight (q : Fin 12 → DutySlot → DutyRun → DutyRun) (j : Fin 8) (w : Nat) (s : State) :
    mapRuns q (addWeight j w s) = addWeight j w (mapRuns q s) := by
  have duties : (mapRuns q (addWeight j w s)).duties = (mapRuns q s).duties := by simp only [mapRuns, addWeight_duties]
  calc mapRuns q (addWeight j w s) = { addWeight j w s with duties := (mapRuns q (addWeight j w s)).duties } := rfl
    _ = { addWeight j w s with duties := (mapRuns q s).duties } := by rw [duties]
    _ = addWeight j w (mapRuns q s) := (addWeight_setDuties j w (mapRuns q s).duties s).symm

/-- In ATTACHED every duty but the one whose run has just ended loses its leave (R130, R144). -/
theorem loseLeave_others (hu : (s.duties[d]).duty = some u) (ended : withoutLeave r = r) :
    (mapRuns (fun _ slot q => if hasLeave .attached slot.probe then q.loseLeave else q) (withRun d r s)).duties =
      Vector.ofFn fun e : Fin 12 => { s.duties[e] with
        duty := (s.duties[e]).duty.map fun x => { x with run := if e = d then r else withoutLeave x.run } } := by
  refine congrArg Vector.ofFn (funext fun e => ?_)
  have leave : ∀ b, hasLeave .attached b = true := fun b => hasLeave_iff.2 (.inl rfl)
  simp only [leave, if_true, DutyRun.loseLeave_eq]
  by_cases same : e = d
  · subst same
    rw [withRun_duties_self hu]
    simp only [if_true, hu, Option.map_some, ended]
  · rw [withRun_duties_ne (Ne.symm same)]
    simp only [same, if_false]

theorem withoutLeave_rescheduled (p : DutyProfile) (r : DutyRun) : withoutLeave (rescheduled p r) = rescheduled p r := by
  unfold rescheduled
  split <;> rfl

/-- Settles O45: in CHECKING the probe is the duty offered, and no other had leave; in ATTACHED every duty had leave. -/
theorem probe_result_decides_the_network : Obligations.Probe_result_decides_the_network := by
  intro s frame f c d u g h served hg flag hu awaiting
  have gateway := fromGateway_eq (s := entered c s) (f := f) hg h.length
  have replies := replyMatches_iff (s := entered c s) (f := f) hu
  refine ⟨fun net checking => ?checking, fun attached hd reply other => ?attached⟩
  case checking =>
    have only := net.only_probe flag
    have probes : Probing (entered c s) d := ⟨checking, flag⟩
    have offered := offeredDuty_of_checking (f := f) hu checking flag only awaiting
    have foreign := fun run : DutyRun =>
      probeForeign_of_checking (withRun_duty (s := entered c s) hu run) hg checking (fun e he => only e (by rwa [withRun_probe] at he))
    refine ⟨fun reply same => ?won, fun reply other => ?stranger, fun noReply reject => ?reject⟩
    case won =>
      have hits : replyMatches (entered c s) d f = true := replies.2 reply
      rw [exec_receivedFrame_of_active h.active, classify_offered h (offered (.inl hits)), consumeFrame_of_reply hits,
        takeReply_of_gateway (s := entered c s) hu probes (gateway.2 same)]
    case stranger =>
      have hits : replyMatches (entered c s) d f = true := replies.2 reply
      have away := Bool.eq_false_iff.2 (mt gateway.1 other)
      refine exec_receivedFrame_of_classify (.inl h.active) served ?_ (addWeight_queue _ _ _)
      rw [classify_offered h (offered (.inl hits)), consumeFrame_of_reply hits, takeReply_of_stranger probes away]
      exact probeForeign_of_checking (s := entered c s) hu hg checking only
    case reject =>
      have silent : replyMatches (entered c s) d f = false := Bool.eq_false_iff.2 (mt replies.1 noReply)
      have hits : rejectMatches s d f = true := (rejectMatches_iff hu).2 reject
      refine exec_receivedFrame_of_classify (.inl h.active) served ?_ (addWeight_queue _ _ _)
      rw [classify_offered h (offered (.inr hits)), consumeFrame_of_reject silent, takeReject_of_probing (s := entered c s) hu probes,
        foreign]
      exact congrArg (addWeight g.lane g.weight) (withRun_withRun _ _ { entered c s with net := .foreign })
  case attached =>
    have hits : replyMatches (entered c s) d f = true := replies.2 reply
    have away := Bool.eq_false_iff.2 (mt gateway.1 other)
    refine exec_receivedFrame_of_classify (.inl h.active) served ?_ (addWeight_queue _ _ _)
    rw [classify_offered h hd, consumeFrame_of_reply hits,
      takeReply_of_attached_stranger (s := entered c s) hu attached flag hg away]
    have signed : (withRun d (rescheduled u.profile (captured u.profile f (succeeded u.run))) (entered c s)).signature = some g := hg
    rw [enterForeign_eq signed, mapRuns_addWeight]
    refine congrArg (addWeight g.lane g.weight) ?_
    have net : (withRun d (rescheduled u.profile (captured u.profile f (succeeded u.run))) (entered c s)).net = .attached := attached
    rw [net]
    exact congrArg (fun v : Vector DutySlot 12 => ({ entered c s with net := .foreign, duties := v } : State))
      (loseLeave_others (s := entered c s) hu (withoutLeave_rescheduled _ _))

/-! ### Claims (R53 to R58) -/

section Claims

variable {i : Fin 32} {k : Fin 16} {e : AddrEntry} {a : LinkAddr}

theorem dispatch_of_claim (ha : (s.rules[i]).action = .claim) (f : Frame) (k : Fin 16) :
    dispatch i f (some k) s =
      addWeight (s.rules[i]).lane (s.rules[i]).weight (actClaim i s.rules[i] f (some k) (countMatch i s)) := by
  simp only [dispatch, act, ha]

theorem updEntry_updEntry (he : s.entries[k] = some e) (f h : AddrEntry → AddrEntry) :
    updEntry k f (updEntry k h s) = { s with entries := s.entries.set k (some (f (h e))) } := by
  have recorded : (s.entries.set k (some (h e)))[k] = some (h e) := Vector.getElem_set_self k.isLt
  rw [updEntry_of_inUse h he, updEntry_of_inUse (s := { s with entries := s.entries.set k (some (h e)) }) f recorded]
  simp only [Vector.set_set]

theorem ruleClaim_of_own (own : a = s.station.ownAddr) : ruleClaim k a s = (s, false) := if_pos own

theorem ruleClaim_of_defended (he : s.entries[k] = some e) (foreign : a ≠ s.station.ownAddr) (defended : e.state = .defended) :
    ruleClaim k a s = ({ s with entries := s.entries.set k (some { AddrEntry.recordClaim a e with
      state := .contested, contestTimer := some (s.station.contestWindow * 1000) }) }, true) := by
  rw [ruleClaim, if_neg foreign, he]
  dsimp only
  rw [defended]
  exact congrArg (·, true) (updEntry_updEntry he _ _)

theorem ruleClaim_of_contested (he : s.entries[k] = some e) (foreign : a ≠ s.station.ownAddr)
    (contested : e.state = .contested ∨ e.state = .tentative) :
    ruleClaim k a s = (addWeight s.station.conflictLane s.station.conflictWeight
      { s with entries := s.entries.set k (some (AddrEntry.lose (AddrEntry.recordClaim a e))) }, false) := by
  rw [ruleClaim, if_neg foreign, he]
  dsimp only
  rcases contested with h | h <;> rw [h] <;>
    exact congrArg (fun x => (addWeight s.station.conflictLane s.station.conflictWeight x, false)) (updEntry_updEntry he _ _)

theorem ruleClaim_of_lost (he : s.entries[k] = some e) (foreign : a ≠ s.station.ownAddr) (lost : e.state = .lost) :
    ruleClaim k a s = ({ s with entries := s.entries.set k (some (AddrEntry.recordClaim a e)) }, false) := by
  rw [ruleClaim, if_neg foreign, he]
  dsimp only
  rw [lost]
  exact congrArg (·, false) (updEntry_of_inUse _ he)

theorem actClaim_of_ruled {ruled : State} (h : ruleClaim k (linkAddrAt f (s.rules[i]).claimantOffset) s = (ruled, false)) :
    actClaim i s.rules[i] f (some k) s = ruled := by
  rw [actClaim, h]
  rfl

theorem actClaim_of_defence {ruled : State} (h : ruleClaim k (linkAddrAt f (s.rules[i]).claimantOffset) s = (ruled, true)) :
    actClaim i s.rules[i] f (some k) s = answerWith i s.rules[i] .essential f (some k) ruled := by
  rw [actClaim, h]
  rfl

/-- A build reads of the entries their values alone (R70, R73). -/
theorem applyPatch_congr (station : t.station = s.station)
    (values : ∀ i : Fin 16, (t.entries[i]).map AddrEntry.value = (s.entries[i]).map AddrEntry.value) :
    applyPatch t = applyPatch s := by
  funext ops buf patch
  cases patch with
  | fillEntry dest source =>
    cases source with
    | index i =>
      have same := values i
      simp only [applyPatch]
      cases ht : t.entries[i] with
      | none =>
        rw [ht, Option.map_none, eq_comm, Option.map_eq_none_iff] at same
        rw [same]
      | some x =>
        rw [ht, Option.map_some, eq_comm, Option.map_eq_some_iff] at same
        obtain ⟨y, hy, value⟩ := same
        rw [hy]
        dsimp only
        rw [value]
    | matched => rfl
  | ownLink dest => simp only [applyPatch, station]
  | _ => rfl

theorem buildAnswer_congr (station : t.station = s.station) (pool : t.pool = s.pool) (lists : t.patchLists = s.patchLists)
    (values : ∀ i : Fin 16, (t.entries[i]).map AddrEntry.value = (s.entries[i]).map AddrEntry.value) (template : Fin 48)
    (list : Option (Fin 32)) (request : Frame) (m : Option NetAddr) :
    buildAnswer t template list request m = buildAnswer s template list request m := by
  have patches : patchesOf t list = patchesOf s list := by simp only [patchesOf, lists]
  simp only [buildAnswer, buildFrame, template?, station, pool, patches, applyPatch_congr station values]

/-- An entry's place taken by one of the same value. -/
theorem set_values {x : AddrEntry} (he : s.entries[k] = some e) (value : x.value = e.value) (j : Fin 16) :
    ((s.entries.set k (some x))[j]).map AddrEntry.value = (s.entries[j]).map AddrEntry.value := by
  by_cases same : k = j
  · subst same
    have self : (s.entries.set k (some x))[k] = some x := Vector.getElem_set_self k.isLt
    rw [self, he, Option.map_some, Option.map_some, value]
  · have ne : (k : Nat) ≠ j := fun h => same (Fin.ext h)
    have kept : (s.entries.set k (some x))[j] = s.entries[j] := by simp [ne]
    rw [kept]

/-- Settles O42: the ruling by the entry's state, then the defence that a DEFENDED entry's claim calls for. -/
theorem claims_are_ruled_by_the_entry_state : Obligations.Claims_are_ruled_by_the_entry_state := by
  intro s frame f c i k e h attached hd hw served he ha claimant base after becomes recorded contested
  have run : exec (.receivedFrame frame) s = after (actClaim i s.rules[i] f (some k) (countMatch i (entered c s))) := by
    rw [exec_receivedFrame_of_active h.active, classify_dispatch h hd attached hw, dispatch_of_claim (s := entered c s) ha]
    rfl
  have he' : base.entries[k] = some e := he
  refine ⟨fun own => ?own, fun foreign defended => ?defended, fun foreign open_ => ?contested, fun foreign lost => ?lost⟩
  case own => exact run.trans (congrArg after (actClaim_of_ruled (s := base) (ruleClaim_of_own own)))
  case contested => exact run.trans (congrArg after (actClaim_of_ruled (s := base) (ruleClaim_of_contested he' foreign open_)))
  case lost => exact run.trans (congrArg after (actClaim_of_ruled (s := base) (ruleClaim_of_lost he' foreign lost)))
  case defended =>
    have defends : actClaim i s.rules[i] f (some k) base =
        answerWith i s.rules[i] .essential f (some k) (becomes contested) :=
      actClaim_of_defence (s := base) (ruleClaim_of_defended he' foreign defended)
    have self : (becomes contested).entries[k] = some contested := Vector.getElem_set_self k.isLt
    have value : entryValue (becomes contested) (some k) = some e.value := by
      rw [entryValue, Option.bind_some, self]
      rfl
    have answer : ∀ template, (s.rules[i]).template = some template →
        answerWith i s.rules[i] .essential f (some k) (becomes contested) =
          offerAnswer i .essential (buildAnswer s template (s.rules[i]).patchList f (some e.value)) (becomes contested) := by
      intro template ht
      have frame := buildAnswer_congr (t := becomes contested) (s := s) rfl rfl rfl (set_values (x := contested) he rfl) template
        (s.rules[i]).patchList f (some e.value)
      rw [answerWith, ht]
      dsimp only
      rw [value, frame]
    refine ⟨fun none => ?_, fun template ht room => ?_, fun template ht full => ?_⟩
    · refine run.trans (congrArg after (defends.trans ?_))
      rw [answerWith, none]
    · exact run.trans (congrArg after (defends.trans ((answer template ht).trans (offerAnswer_essential_of_room room))))
    · exact run.trans (congrArg after (defends.trans ((answer template ht).trans (offerAnswer_essential_of_full full))))

end Claims

end Sys2Proof.Machine
end

section
/-! SUPPORT. Link changes, the resumption of DEFERRED duties and the restart of the probe, by case; then the obligations O54
and O55. -/

namespace Sys2Proof.Machine

variable {s t : State} {d : Fin 12} {u : Duty} {r : DutyRun} {g : Signature}

/-! ### Every run changed by a walk -/

/-- A walk that changes the runs of the duties it meets is one change of all of them. -/
theorem walk_updRun (q : DutyRun → DutyRun) {l : List (Fin 12)} (once : l.Nodup) (s : State) :
    l.foldl (fun x k => updRun k q x) s = mapRuns (fun e _ r => if e ∈ l then q r else r) s := by
  induction l generalizing s with
  | nil => exact (mapRuns_of_still fun e x _ => rfl).symm
  | cons k l ih =>
    obtain ⟨away, once⟩ := List.nodup_cons.1 once
    rw [List.foldl_cons, ih once]
    have duties : (mapRuns (fun e _ r => if e ∈ l then q r else r) (updRun k q s)).duties =
        (mapRuns (fun e _ r => if e ∈ k :: l then q r else r) s).duties := by
      refine congrArg Vector.ofFn (funext fun e => ?_)
      by_cases same : e = k
      · subst same
        rw [updRun_duties_self]
        simp [away, Function.comp_def]
      · rw [updRun_duties_ne k e q s (Ne.symm same)]
        simp [same]
    calc mapRuns (fun e _ r => if e ∈ l then q r else r) (updRun k q s)
      _ = { s with duties := (mapRuns (fun e _ r => if e ∈ l then q r else r) (updRun k q s)).duties } := rfl
      _ = { s with duties := (mapRuns (fun e _ r => if e ∈ k :: l then q r else r) s).duties } := by rw [duties]

/-- A BLOCKED duty declines a place in LINK_DOWN (R93, R110). -/
def declined (r : DutyRun) : DutyRun := if r.state = .blocked then r.defer .try_ else r

theorem not_leave_of_down (down : s.net = .linkDown) : ¬Leave s d := by
  simp [Leave, down]

theorem isBlocked_of_unused (h : (s.duties[d]).duty = none) : isBlocked s d = false := by
  have absent : duty? s d = none := h
  rw [isBlocked, absent]
  rfl

theorem isBlocked_of_used (hu : (s.duties[d]).duty = some u) (h : u.run.state ≠ .blocked) : isBlocked s d = false := by
  rw [isBlocked, duty?_eq hu]
  simpa using h

theorem withRun_self (hu : (s.duties[d]).duty = some u) : withRun d u.run s = s := by
  have slot : { s.duties[d] with duty := (s.duties[d]).duty.map fun x => { x with run := u.run } } = s.duties[d] := by
    rw [hu, Option.map_some, ← hu]
  have same : s.duties.set d s.duties[d] = s.duties := Vector.set_getElem_self d.isLt
  rw [withRun, slot, same]

theorem offerTo_of_down {len : Nat} (down : s.net = .linkDown) (room : s.queue.length ≤ len) (k : Fin 12) :
    offerTo len s k = updRun k declined s := by
  cases hk : (s.duties[k]).duty with
  | none => rw [offerTo_of_not_blocked len s k (isBlocked_of_unused hk), updRun_of_unused hk]
  | some x =>
    rw [updRun_eq_withRun hk, declined]
    by_cases blocked : x.run.state = .blocked
    · rw [if_pos blocked, offerTo_of_blocked (isBlocked_iff.2 ⟨x, hk, blocked⟩) room,
        makeTry_of_no_leave hk (not_leave_of_down down)]
    · rw [if_neg blocked, offerTo_of_not_blocked len s k (isBlocked_of_used hk blocked), withRun_self hk]

theorem offers_of_down {len : Nat} (l : List (Fin 12)) (down : s.net = .linkDown) (room : s.queue.length ≤ len) :
    l.foldl (offerTo len) s = l.foldl (fun x k => updRun k declined x) s := by
  induction l generalizing s with
  | nil => rfl
  | cons k l ih =>
    rw [List.foldl_cons, List.foldl_cons, offerTo_of_down down room]
    exact ih (s := updRun k declined s) down room

theorem offerPlaces_of_not_blocked (n : Nat) (h : ∀ d, isBlocked s d = false) : offerPlaces n s = s := by
  induction n with
  | zero => rfl
  | succ n ih => rw [offerPlaces, offerPlace_of_not_blocked s h, ih]

theorem mapRuns_duty (q : Fin 12 → DutySlot → DutyRun → DutyRun) (d : Fin 12) (s : State) :
    ((mapRuns q s).duties[d]).duty = (s.duties[d]).duty.map fun x => { x with run := q d s.duties[d] x.run } := by
  simp [mapRuns]

theorem declined_state (r : DutyRun) : (declined r).state ≠ .blocked := by
  unfold declined
  split
  · exact nofun
  · assumption

/-- In LINK_DOWN, with room or no duty that waits for it, the arbiter makes every BLOCKED duty decline (R93, R110). -/
theorem arbiter_of_down (down : s.net = .linkDown)
    (room : (∀ d : Fin 12, ∀ x ∈ (s.duties[d]).duty, x.run.state ≠ .blocked) ∨ s.queue.length < 8) :
    arbiter s = mapRuns (fun _ _ r => declined r) s := by
  rcases room with none | room
  · rw [arbiter_of_not_blocked s fun d => isBlocked_eq_false.2 (none d)]
    exact (mapRuns_of_still fun e x hx => if_neg (none e x hx)).symm
  · obtain ⟨n, hn⟩ : ∃ n, 8 - s.queue.length = n + 1 := ⟨7 - s.queue.length, by omega⟩
    have walk : offerPlace s = mapRuns (fun _ _ r => declined r) s := by
      rw [offerPlace_of_room room, offers_of_down _ down le_rfl, walk_updRun declined (List.nodup_finRange 12)]
      simp only [List.mem_finRange, if_true]
    rw [arbiter_of_room hn, walk]
    refine offerPlaces_of_not_blocked n fun d => isBlocked_eq_false.2 fun x hx => ?_
    rw [mapRuns_duty, Option.mem_def, Option.map_eq_some_iff] at hx
    obtain ⟨y, -, rfl⟩ := hx
    exact declined_state y.run

/-! ### A change to DOWN (R93, R129, R138) -/

theorem exec_linkState (l : LinkRecord) : exec (.linkState l) s = .next (takeLinkState l s) := rfl

theorem takeLinkState_of_same {l : LinkRecord} (h : s.linkState = linkOfRecord l) : takeLinkState l s = s := if_pos h

theorem takeLinkState_of_passive {l : LinkRecord} (change : s.linkState ≠ linkOfRecord l) (passive : s.active = false) :
    takeLinkState l s = { s with linkState := linkOfRecord l } := by
  rw [takeLinkState, if_neg change]
  exact if_neg (by simp [passive])

theorem takeLinkState_of_active {l : LinkRecord} (change : s.linkState ≠ linkOfRecord l) (active : s.active = true) :
    takeLinkState l s = linkChange l { s with linkState := linkOfRecord l } := by
  rw [takeLinkState, if_neg change]
  exact if_pos active

/-- What a change to DOWN makes of a duty, the places left free then declined. -/
theorem declined_linkDown (b : Bool) (r : DutyRun) :
    declined (r.linkDown b) =
      if r.state = .queued ∧ b = true then { r with void := true }
      else if r.state = .queued ∨ r.state = .awaiting ∨ r.state = .blocked then r.defer .try_
      else r := by
  obtain ⟨state⟩ := r
  cases state <;> cases b <;> rfl

theorem linkDown_blocked (b : Bool) (r : DutyRun) (h : r.state ≠ .blocked) : (r.linkDown b).state ≠ .blocked := by
  unfold DutyRun.linkDown
  split
  · next queued =>
    split
    · exact h
    · exact nofun
  · exact nofun
  · exact h

theorem dutyInFlight_iff {q : List TxEntry} : dutyInFlight q d = true ↔ ∃ e ∈ q, e.inFlight = true ∧ e.origin = .duty d := by
  simp [dutyInFlight]

theorem dutyInFlight_filter (q : List TxEntry) (d : Fin 12) :
    dutyInFlight (q.filter fun e => e.inFlight) d = dutyInFlight q d := by
  simp [dutyInFlight, List.any_filter]

theorem linkDown_of_change (up : s.net ≠ .linkDown)
    (room : (∀ d : Fin 12, ∀ x ∈ (s.duties[d]).duty, x.run.state ≠ .blocked) ∨ (s.queue.countP fun e => e.inFlight) < 8) :
    linkDown s = mapRuns (fun d _ r => declined (r.linkDown (dutyInFlight s.queue d))) (dropQueued { s with net := .linkDown }) := by
  rw [linkDown, if_neg (by simpa using up)]
  dsimp only
  rw [arbiter_of_down rfl]
  · simp [mapRuns, dutyInFlight_filter, Function.comp_def]
  · rcases room with none | few
    · refine .inl fun d x hx => ?_
      rw [mapRuns_duty, Option.mem_def, Option.map_eq_some_iff] at hx
      obtain ⟨y, hy, rfl⟩ := hx
      exact linkDown_blocked _ _ (none d y hy)
    · refine .inr ?_
      rw [List.countP_eq_length_filter] at few
      exact few

/-- The duties after a change to DOWN, in the words of the statement. -/
theorem linkDown_duties (s : State) :
    (mapRuns (fun d _ r => declined (r.linkDown (dutyInFlight s.queue d))) s).duties =
      Vector.ofFn fun d : Fin 12 => { s.duties[d] with
        duty := (s.duties[d]).duty.map fun u => { u with
          run :=
            if u.run.state = .queued ∧ (∃ e ∈ s.queue, e.inFlight = true ∧ e.origin = .duty d) then
              { u.run with void := true }
            else if u.run.state = .queued ∨ u.run.state = .awaiting ∨ u.run.state = .blocked then
              { u.run with state := .deferred, pending := some .try_, void := false, timer := none }
            else u.run } } := by
  refine congrArg Vector.ofFn (funext fun d => ?_)
  simp only [declined_linkDown, dutyInFlight_iff]
  rfl

/-- A queue of entries in flight alone is served. -/
theorem startTransmit_of_filtered {q : List TxEntry} (h : s.queue = q.filter fun e => e.inFlight) : startTransmit s = s := by
  refine startTransmit_of_served s fun silent => ?_
  rw [h, someInFlight_filter] at silent
  rw [h, filter_of_none_inFlight silent]

/-- Settles O54: a repeat, the states that only note the link, and the change to DOWN with every duty's share. -/
theorem link_down_removes_and_defers : Obligations.Link_down_removes_and_defers := by
  refine ⟨fun s l passive change => ?_, fun s => ⟨fun up => ?_, fun down => ?_⟩, fun s active change down served => ?_,
    fun s active change up room => ?_⟩
  · have differs : s.linkState ≠ linkOfRecord l := by cases l <;> exact change
    rw [exec_linkState, takeLinkState_of_passive differs passive]
    cases l <;> rfl
  · exact congrArg Host.Outcome.next (takeLinkState_of_same up)
  · exact congrArg Host.Outcome.next (takeLinkState_of_same down)
  · have still : linkDown { s with linkState := .down } = { s with linkState := .down } := linkDown_of_down down
    rw [exec_linkState, takeLinkState_of_active change active]
    exact (congrArg (fun x => Host.Outcome.next (startTransmit x)) still).trans (next_startTransmit_of_served served rfl)
  · have changed := linkDown_of_change (s := { s with linkState := .down }) up room
    have sent : linkChange .down { s with linkState := .down } = linkDown { s with linkState := .down } := by
      refine startTransmit_of_filtered (q := s.queue) ?_
      rw [changed]
      rfl
    rw [exec_linkState, takeLinkState_of_active change active]
    refine congrArg Host.Outcome.next (sent.trans (changed.trans ?_))
    exact congrArg (fun v : Vector DutySlot 12 =>
      ({ dropQueued { s with linkState := .down, net := .linkDown } with duties := v } : State)) (linkDown_duties s)

/-! ### Resumption (R128) -/

theorem resumeDuty_of_still (h : ∀ x ∈ (s.duties[d]).duty, x.run.state = .deferred → ¬Leave s d) : resumeDuty s d = s := by
  cases hd : (s.duties[d]).duty with
  | none =>
    have absent : duty? s d = none := hd
    rw [resumeDuty, absent]
  | some x =>
    rw [resumeDuty, duty?_eq hd]
    refine if_neg fun both => ?_
    rw [Bool.and_eq_true, beq_iff_eq] at both
    exact h x hd both.1 (dutyLeave_iff.1 both.2)

theorem resumeDuty_of_deferred (hu : (s.duties[d]).duty = some u) (deferred : u.run.state = .deferred) (leave : Leave s d) :
    resumeDuty s d = match u.run.pending with
      | some .newRun => beginRun d s
      | some .try_ => makeTry d s
      | none => s := by
  rw [resumeDuty, duty?_eq hu]
  refine (if_pos ?_).trans ?_
  · rw [deferred, dutyLeave_iff.2 leave]
    rfl
  · cases u.run.pending with
    | none => rfl
    | some step => cases step <;> rfl

/-- A try with leave leaves the duty in a state other than DEFERRED, its frame in the queue or not. -/
theorem makeTry_with_leave (hu : (s.duties[d]).duty = some u) (leave : Leave s d) :
    ∃ r q, makeTry d s = { withRun d r s with queue := q } ∧ r.state ≠ .deferred := by
  by_cases lost : NamesLost s u.profile.patchList
  · exact ⟨_, s.queue, makeTry_of_lost hu leave lost, nofun⟩
  · by_cases room : s.queue.length < 8
    · exact ⟨_, _, makeTry_of_room hu leave lost room, nofun⟩
    · exact ⟨_, s.queue, makeTry_of_full hu leave lost (Nat.le_of_not_lt room), nofun⟩

/-- Once the lowest DEFERRED duty with leave has carried out its step, the resumption goes on from the start. -/
theorem resumeDeferred_of_lowest {q : List TxEntry} (hu : (s.duties[d]).duty = some u)
    (low : ∀ k : Fin 12, k < d → ∀ x ∈ (s.duties[k]).duty, x.run.state = .deferred → ¬Leave s k)
    (step : resumeDuty s d = { withRun d r s with queue := q }) (moves : r.state ≠ .deferred) :
    resumeDeferred s = resumeDeferred { withRun d r s with queue := q } := by
  rw [← step]
  refine walk_again resumeDuty (fun k hk => resumeDuty_of_still (low k hk)) fun k hk => ?_
  rw [step]
  refine resumeDuty_of_still fun x hx deferred leave => ?_
  rcases hk.lt_or_eq with lt | rfl
  · have slot : ({ withRun d r s with queue := q }.duties[k]) = s.duties[k] := withRun_duties_ne lt.ne' r
    rw [slot] at hx
    exact low k lt x hx deferred (leave_withRun.1 leave)
  · have duty : ({ withRun k r s with queue := q }.duties[k]).duty = some { u with run := r } := withRun_duty hu r
    rw [duty, Option.mem_def, Option.some.injEq] at hx
    rw [← hx] at deferred
    exact moves deferred

theorem exec_deferredResume_of_active (active : s.active = true) :
    exec .deferredResume s = .next (startTransmit (resumeDeferred s)) := congrArg Host.Outcome.next (if_pos active)

/-- The event after the lowest DEFERRED duty's step. -/
theorem exec_deferredResume_of_lowest {q : List TxEntry} (active : s.active = true) (hu : (s.duties[d]).duty = some u)
    (low : ∀ k : Fin 12, k < d → ∀ x ∈ (s.duties[k]).duty, x.run.state = .deferred → ¬Leave s k)
    (step : resumeDuty s d = { withRun d r s with queue := q }) (moves : r.state ≠ .deferred) :
    exec .deferredResume s = exec .deferredResume { withRun d r s with queue := q } := by
  have on : { withRun d r s with queue := q }.active = true := active
  rw [exec_deferredResume_of_active active, resumeDeferred_of_lowest hu low step moves, ← exec_deferredResume_of_active on]

/-! ### The restart of the probe (R133) -/

/-- The probe's run-time state at a restart, before its first try. -/
def Duty.restarted (u : Duty) : DutyRun :=
  { u.run.begin u.profile.startupTries u.profile.counterInc with failedRounds := 0, pending := none, timer := none }

theorem probeDuty?_of_signature (net : NetInv s) (hg : s.signature = some g) (hu : (s.duties[g.probeDuty]).duty = some u) :
    probeDuty? s = some g.probeDuty := by
  have flag : (s.duties[g.probeDuty]).probe = true := (net.flags _).2 ⟨g, hg, rfl⟩
  refine find?_finRange_eq_some.2 ⟨?_, fun k hk => ?_⟩
  · rw [flag, hu]
    rfl
  · have plain : (s.duties[k]).probe = false := by
      rw [← Bool.not_eq_true]
      exact fun set => hk.ne (net.only_probe flag k set)
    rw [plain]
    rfl

theorem restartProbe_of_probe (hp : probeDuty? s = some d) (hu : (s.duties[d]).duty = some u) :
    restartProbe s =
      if u.run.state = .queued ∧ (∃ e ∈ s.queue, e.inFlight = true ∧ e.origin = .duty d) then
        withRun d { u.restarted with void := true } s
      else makeTry d (withRun d u.restarted s) := by
  rw [restartProbe, hp]
  dsimp only
  rw [duty?_eq hu]
  dsimp only
  rw [updRun_eq_withRun hu, updRun_withRun]
  refine if_congr ?_ rfl rfl
  rw [Bool.and_eq_true, beq_iff_eq, dutyInFlight_iff]

theorem linkUp_of_unsigned (down : s.net = .linkDown) (unsigned : s.signature = none) :
    linkUp s = resumeDeferred { s with net := .attached } := by
  rw [linkUp, if_pos (by simp [down]), if_neg (by simp [unsigned])]

theorem linkUp_of_signed (down : s.net = .linkDown) (hg : s.signature = some g) :
    linkUp s = restartProbe { s with net := .checking } := by
  rw [linkUp, if_pos (by simp [down]), if_pos (by simp [hg])]

/-- Settles O55: the resumption from the lowest DEFERRED duty, and the probe's restart. -/
theorem link_up_resumes_or_probes : Obligations.Link_up_resumes_or_probes := by
  refine ⟨fun s active change down unsigned => ?up, fun s active quiet => ?quiet, fun s d u active hu deferred leave low => ?lowest,
    fun s g u active change down net hg hu => ?probe⟩
  case up =>
    have resumed := linkUp_of_unsigned (s := { s with linkState := .up }) down unsigned
    have on : { s with linkState := .up, net := .attached }.active = true := active
    rw [exec_linkState, takeLinkState_of_active change active, exec_deferredResume_of_active on]
    exact congrArg (fun x => Host.Outcome.next (startTransmit x)) resumed
  case quiet =>
    have still : resumeDeferred s = s := foldl_of_still fun k _ => resumeDuty_of_still (quiet k)
    rw [exec_deferredResume_of_active active, still]
  case lowest =>
    have resumed := resumeDuty_of_deferred hu deferred leave
    refine ⟨fun pending => ?_, fun pending lost => ?_, fun pending sound => ?_⟩ <;> rw [pending] at resumed
    · obtain ⟨r, q, tried, moves⟩ := makeTry_with_leave hu leave
      rw [tried]
      exact exec_deferredResume_of_lowest active hu low (resumed.trans tried) moves
    · exact exec_deferredResume_of_lowest (q := s.queue) active hu low (resumed.trans (beginRun_of_lost hu leave lost)) nofun
    · obtain ⟨r, q, tried, moves⟩ := makeTry_with_leave (withRun_duty hu u.begun) (leave_withRun.2 leave)
      have same : { withRun d r (withRun d u.begun s) with queue := q } = { withRun d r s with queue := q } :=
        congrArg (fun x : State => { x with queue := q }) (withRun_withRun _ r s)
      rw [same] at tried
      have begun := (resumed.trans (beginRun_of_leave hu leave sound)).trans tried
      rw [← BitVec.ofNat_toNat]
      refine (exec_deferredResume_of_lowest active hu low begun moves).trans ?_
      exact congrArg (exec .deferredResume) tried.symm
  case probe =>
    intro run up
    have chosen : probeDuty? s = some g.probeDuty := probeDuty?_of_signature net hg hu
    have restarted := restartProbe_of_probe (s := up) chosen hu
    have signed := linkUp_of_signed (s := { s with linkState := .up }) down hg
    have is : u.restarted = run := by rw [Duty.restarted, DutyRun.begin, BitVec.ofNat_toNat]
    have sent : exec (.linkState .up) s = .next (startTransmit (restartProbe up)) := by
      rw [exec_linkState, takeLinkState_of_active change active]
      exact congrArg (fun x => Host.Outcome.next (startTransmit x)) signed
    rw [sent, restarted, is]
    refine ⟨fun flying => ?_, fun grounded => ?_⟩
    · rw [if_pos flying]
    · rw [if_neg grounded]

end Sys2Proof.Machine
end

section
/-! SUPPORT. A decay period's end and the settle hold's evaluation of all lanes and the total; then obligation O57. -/

namespace Sys2Proof.Machine

variable {s t : State}

/-! ### Members joining in order -/

/-- The members of `l` that `b` says have reached their threshold join in turn (R165, R168). -/
def joinEach (b : Fin 9 → Bool) (l : List (Fin 9)) (s : State) : State := l.foldl (fun x k => joinIf (b k) k x) s

theorem joinEach_joins (b : Fin 9 → Bool) (l : List (Fin 9)) (s : State) : Joins s (joinEach b l s) := by
  induction l generalizing s with
  | nil => exact .refl s
  | cons k l ih => exact (joinIf_joins _ _ s).trans (ih _)

theorem joinEach_reasons (b : Fin 9 → Bool) (l : List (Fin 9)) (s : State) (k : Fin 9) :
    (joinEach b l s).reasons.getLsbD k.val = true ↔ s.reasons.getLsbD k.val = true ∨ (k ∈ l ∧ b k = true) := by
  induction l generalizing s with
  | nil => simp [joinEach]
  | cons j l ih =>
    have first := joinIf_reasons (reached := b j) (r := j) (s := s) k.isLt
    have step : joinEach b (j :: l) s = joinEach b l (joinIf (b j) j s) := rfl
    rw [step, ih]
    simp only [first, List.mem_cons]
    by_cases same : k = j
    · subst same
      simp only [true_or, true_and]
      tauto
    · have ne : k.val ≠ j.val := fun e => same (Fin.ext e)
      simp only [ne, same, false_and, or_false, false_or]

theorem joinEach_reasons_eq_zero (b : Fin 9 → Bool) (l : List (Fin 9)) (s : State) :
    (joinEach b l s).reasons = 0 ↔ s.reasons = 0 ∧ ∀ k ∈ l, b k = false := by
  induction l generalizing s with
  | nil => simp [joinEach]
  | cons j l ih =>
    have step : joinEach b (j :: l) s = joinEach b l (joinIf (b j) j s) := rfl
    rw [step, ih, joinIf_reasons_eq_zero, List.forall_mem_cons, and_assoc]

theorem joinEach_first (b : Fin 9 → Bool) (l : List (Fin 9)) (s : State) :
    (joinEach b l s).firstReason =
      if s.reasons = 0 then
        match l.find? b with
        | some k => some { reason := k, time := s.elapsed }
        | none => s.firstReason
      else s.firstReason := by
  induction l generalizing s with
  | nil => simp [joinEach]
  | cons j l ih =>
    have step : joinEach b (j :: l) s = joinEach b l (joinIf (b j) j s) := rfl
    rw [step, ih, joinIf_firstReason]
    cases hb : b j with
    | false => simp [joinIf, hb]
    | true =>
      have ne : (joinIf true j s).reasons ≠ 0 := joinReason_ne j s
      rw [if_neg ne]
      by_cases empty : s.reasons = 0 <;> simp [hb, empty]

/-! ### All lanes, then the total -/

/-- Lane k, or for 8 the total, has reached its threshold (R165). -/
def memberReached (s : State) (k : Fin 9) : Bool := if h : k.val < 8 then laneReached s ⟨k.val, h⟩ else totalReached s

theorem memberReached_iff (k : Fin 9) : memberReached s k = true ↔
    if h : k.val < 8 then
      (s.laneSettings[k.val]).threshold ≠ 0 ∧ (s.laneSettings[k.val]).threshold ≤ s.lanes[k.val]
    else s.station.totalThreshold ≠ 0 ∧ s.station.totalThreshold ≤ s.lanes.toList.sum := by
  unfold memberReached
  split
  · next h => exact laneReached_iff (j := ⟨k.val, h⟩)
  · exact totalReached_iff

theorem Joins.totalReached (h : Joins s t) : totalReached t = totalReached s := by
  rw [h.frame]
  rfl

theorem testLanes_eq (l : List (Fin 8)) (s x : State) (h : Joins s x) :
    l.foldl testLane x = joinEach (memberReached s) (l.map Fin.castSucc) x := by
  induction l generalizing x with
  | nil => rfl
  | cons j l ih =>
    have reached : memberReached s j.castSucc = laneReached x j := by
      rw [h.frame, memberReached, dif_pos (by simp)]
      rfl
    have step : joinEach (memberReached s) ((j :: l).map Fin.castSucc) x =
        joinEach (memberReached s) (l.map Fin.castSucc) (joinIf (memberReached s j.castSucc) j.castSucc x) := rfl
    rw [List.foldl_cons, step, reached]
    exact ih (testLane x j) (h.trans (joinIf_joins _ _ x))

theorem evaluateAll_eq (s : State) : evaluateAll s = wakeDecision s (joinEach (memberReached s) (List.finRange 9) s) := by
  have lanes := testLanes_eq (List.finRange 8) s s (.refl s)
  have total : totalReached ((List.finRange 8).foldl testLane s) = memberReached s (Fin.last 8) :=
    (testLanes_joins (List.finRange 8) s).totalReached
  have all : List.finRange 9 = (List.finRange 8).map Fin.castSucc ++ [Fin.last 8] := List.finRange_succ_last
  rw [evaluateAll, testTotal_eq_joinIf, total, lanes, all, joinEach, joinEach, List.foldl_append]
  rfl

theorem wakeDecision_frame (b s : State) : wakeDecision b s =
    { s with
      proxy := (wakeDecision b s).proxy, wake := (wakeDecision b s).wake
      patienceTimer := (wakeDecision b s).patienceTimer } := by
  unfold wakeDecision
  split <;> rfl

/-! ### O57 -/

/-- Settles O57: `evaluateAll_eq` makes the hold's evaluation the joining of all nine members in order, whose reason set and first
reason are read off the fold. -/
theorem lanes_decay_and_the_settle_hold_evaluates : Obligations.Lanes_decay_and_the_settle_hold_evaluates := by
  constructor
  · intro s active running
    have both : (s.active && s.decayTimer.isSome) = true := by simp [active, running]
    have period : some (s.station.decayPeriod * 1000) = some (1000 * s.station.decayPeriod) := by rw [Nat.mul_comm]
    exact congrArg Host.Outcome.next ((if_pos both).trans
      (congrArg (fun timer : Timer => { decayLanes s with decayTimer := timer }) period))
  · intro s active running empty joins
    let s' : State := { s with settleTimer := none }
    let joined := joinEach (memberReached s') (List.finRange 9) s'
    have both : (s.active && s.settleTimer.isSome) = true := by simp [active, running]
    have joins_iff : ∀ k, memberReached s' k = true ↔ joins k := memberReached_iff
    have joins_not : ∀ k, memberReached s' k = false ↔ ¬joins k := fun k => by rw [← joins_iff, Bool.not_eq_true]
    have frame : joined = { s' with reasons := joined.reasons, firstReason := joined.firstReason } :=
      (joinEach_joins _ _ s').frame
    have first : joined.firstReason =
        match (List.finRange 9).find? (memberReached s') with
        | some k => some { reason := k, time := s.elapsed }
        | none => s.firstReason := (joinEach_first _ _ _).trans (if_pos empty)
    have wakes : (s'.reasons = 0 ∧ joined.reasons ≠ 0 ∧ joined.proxy = .proxy) ↔ s.proxy = .proxy ∧ ∃ k, joins k := by
      have proxy : joined.proxy = s.proxy := (congrArg State.proxy frame :)
      have some_member : joined.reasons ≠ 0 ↔ ∃ k, joins k := by
        rw [Ne, joinEach_reasons_eq_zero]
        have empty' : s'.reasons = 0 := empty
        simp only [empty', joins_not, List.mem_finRange, forall_const, true_and, not_forall, not_not]
      rw [some_member, proxy]
      exact ⟨fun ⟨_, member, isProxy⟩ => ⟨isProxy, member⟩, fun ⟨isProxy, member⟩ => ⟨empty, member, isProxy⟩⟩
    have station : joined.station = s.station := (congrArg State.station frame :)
    obtain ⟨_, reasons, firstReason, fields⟩ := wakeDecision_fields s' joined
    refine ⟨wakeDecision s' joined, ?_, fun k => ?_, fun k hk lower => ?_, fun no_member => ?_, fun wake => ?_, fun still => ?_⟩
    · refine congrArg Host.Outcome.next ((if_pos both).trans ((evaluateAll_eq s').trans ?_))
      exact (wakeDecision_frame s' joined).trans (by rw [reasons, firstReason, frame])
    · rw [reasons, joinEach_reasons, joins_iff]
      have unset : s'.reasons.getLsbD k.val = false := by
        rw [show s'.reasons = 0 from empty]
        simp
      simp only [unset, Bool.false_eq_true, List.mem_finRange, true_and, false_or]
    · have found : (List.finRange 9).find? (memberReached s') = some k :=
        find?_finRange_eq_some.2 ⟨(joins_iff k).2 hk, fun i hi => (joins_not i).2 (lower i hi)⟩
      rw [firstReason, first, found]
    · have found : (List.finRange 9).find? (memberReached s') = none :=
        List.find?_eq_none.2 fun k _ => by simp [(joins_not k).2 (no_member k)]
      rw [firstReason, first, found]
    · rw [if_pos (wakes.2 wake), station, Nat.mul_comm] at fields
      simp only [Prod.mk.injEq] at fields
      exact fields
    · rw [if_neg (wakes.not.2 still)] at fields
      simp only [Prod.mk.injEq] at fields
      obtain ⟨proxy, wake, patience⟩ := fields
      exact ⟨proxy.trans (congrArg State.proxy frame :), wake.trans (congrArg State.wake frame :),
        patience.trans (congrArg State.patienceTimer frame :)⟩

end Sys2Proof.Machine
end

section
/-! SUPPORT. The stages a received frame goes through, read declaratively: size, VLAN tag, destination class, duty offer and rule
walk; then the obligations O36 to O38. -/

namespace Sys2Proof.Machine

variable {s : State} {frame f : Frame} {c : DestClass} {d : Fin 12} {u : Duty} {i : Fin 32} {m : Option (Fin 16)}

/-! ### Bytes as numbers -/

theorem readNat_eq_mod_iff {bs : List Byte} {off w n : Nat} (h : off + w ≤ bs.length) :
    readNat bs off w = n % 256 ^ w ↔ slice bs off w = bytesOfNat w n := by
  refine ⟨fun same => natOfBytes_inj ?_ (same.trans (natOfBytes_bytesOfNat w n).symm), fun same => ?_⟩
  · rw [slice_length h, bytesOfNat_length]
  · rw [readNat, same, natOfBytes_bytesOfNat]

/-- The leading bytes of a number are its leading digits. -/
theorem natOfBytes_take {bs : List Byte} {w k : Nat} (h : bs.length = w) :
    natOfBytes (bs.take k) = natOfBytes bs / 256 ^ (w - k) := by
  have rest : (bs.drop k).length = w - k := by rw [List.length_drop, h]
  have small := natOfBytes_lt (bs.drop k)
  have whole := natOfBytes_append (bs.take k) (bs.drop k)
  rw [List.take_append_drop, rest] at whole
  rw [rest] at small
  rw [whole, Nat.add_comm, Nat.add_mul_div_right _ _ (Nat.pow_pos (by decide)), Nat.div_eq_of_lt small, Nat.zero_add]

theorem div_eq_iff_take_eq {as bs : List Byte} {w k : Nat} (ha : as.length = w) (hb : bs.length = w) :
    natOfBytes as / 256 ^ (w - k) = natOfBytes bs / 256 ^ (w - k) ↔ as.take k = bs.take k := by
  rw [← natOfBytes_take ha, ← natOfBytes_take hb]
  exact ⟨natOfBytes_inj (by rw [List.length_take, List.length_take, ha, hb]), congrArg natOfBytes⟩

/-! ### Size and VLAN (R23, R24) -/

/-- A frame carries a VLAN tag (R24). -/
def Tagged (f : Frame) : Prop := (f.drop 12).take 2 = [0x81, 0x00]

theorem tagged_iff (h : 14 ≤ f.length) : readNat f 12 2 = 0x8100 ↔ Tagged f :=
  readNat_eq_toNat_iff (v := 0x8100#16) (by decide) (by omega)

theorem normalise_of_out (h : ¬(14 ≤ f.length ∧ f.length ≤ 1522)) : normalise f = none := if_pos (by omega)

theorem normalise_of_untagged (h : 14 ≤ f.length ∧ f.length ≤ 1522) (plain : ¬Tagged f) : normalise f = some (f, none) := by
  rw [normalise, if_neg (by omega), if_neg ((tagged_iff h.1).not.2 plain)]

theorem normalise_of_short_tagged (tag : Tagged f) (short : f.length < 18) : normalise f = none := by
  by_cases h : 14 ≤ f.length ∧ f.length ≤ 1522
  · rw [normalise, if_neg (by omega), if_pos ((tagged_iff h.1).2 tag), if_pos short]
  · exact normalise_of_out h

theorem normalise_of_tagged (h : 18 ≤ f.length ∧ f.length ≤ 1522) (tag : Tagged f) :
    normalise f = some (f.take 12 ++ f.drop 16, some (BitVec.ofNat 12 (readNat f 14 2))) := by
  rw [normalise, if_neg (by omega), if_pos ((tagged_iff (by omega)).2 tag), if_neg (by omega)]

/-! ### A frame that ends at one of the first stages -/

theorem classify_malformed (h : normalise frame = none) :
    classify frame s = { s with stats := { s.stats with
      received := min (s.stats.received + 1) 4294967295, malformed := min (s.stats.malformed + 1) 4294967295 } } := by
  rw [classify, h]
  rfl

theorem classify_foreign {vlan : Option (BitVec 12)} (h : normalise frame = some (f, vlan)) (other : s.station.vlan ≠ vlan) :
    classify frame s = { s with stats := { s.stats with
      received := min (s.stats.received + 1) 4294967295, foreignDest := min (s.stats.foreignDest + 1) 4294967295 } } := by
  rw [classify, h]
  exact if_pos (Ne.symm other)

theorem classify_of_no_dest (h : normalise frame = some (f, s.station.vlan)) (hd : destClass s f = none) :
    classify frame s = { s with stats := { s.stats with
      received := min (s.stats.received + 1) 4294967295, foreignDest := min (s.stats.foreignDest + 1) 4294967295 } } := by
  simp only [classify, h, hd, ne_eq, not_true_eq_false, if_false]
  rfl

/-! ### O36 -/

/-- Settles O36: the normal form and its VLAN id decide the end, and a count leaves the queue served. -/
theorem frames_end_at_intake_size_and_vlan : Obligations.Frames_end_at_intake_size_and_vlan := by
  intro s f
  refine ⟨fun passive => ?_, fun heard served => ⟨fun bad => ?_, fun foreign => ?_⟩⟩
  · refine congrArg Host.Outcome.next (if_neg ?_)
    rcases passive with p | p <;> simp [State.active, p]
  · refine exec_receivedFrame_of_classify heard served (classify_malformed ?_) rfl
    rcases bad with out | ⟨tag, short⟩
    · exact normalise_of_out out
    · exact normalise_of_short_tagged tag short
  · rcases foreign with ⟨size, tag, long, other⟩ | ⟨size, plain, other⟩
    · exact exec_receivedFrame_of_classify heard served (classify_foreign (normalise_of_tagged ⟨long, size.2⟩ tag) other) rfl
    · exact exec_receivedFrame_of_classify heard served (classify_foreign (normalise_of_untagged size plain) other) rfl

/-! ### The destination stage (R27) -/

theorem linkAddrAt_toNat (f : Frame) : (linkAddrAt f 0).toNat = natOfBytes (f.take 6) := by
  have small : readNat f 0 6 < 2 ^ 48 := readNat_lt f 0 6
  rw [linkAddrAt, BitVec.toNat_ofNat, Nat.mod_eq_of_lt small]
  rfl

/-- The group bit of an address is the lowest bit of its first byte. -/
theorem linkAddrAt_group_bit (h : 6 ≤ f.length) : (linkAddrAt f 0).getLsbD 40 = (f.getD 0 0).getLsbD 0 := by
  obtain ⟨a, rest, rfl⟩ : ∃ a rest, f = a :: rest := List.exists_cons_of_length_pos (by omega)
  have length : (rest.take 5).length = 5 := by
    rw [List.length_take]
    simp only [List.length_cons] at h
    omega
  have small := natOfBytes_lt (rest.take 5)
  have value : natOfBytes ((a :: rest).take 6) = 2 ^ 40 * a.toNat + natOfBytes (rest.take 5) := by
    rw [List.take_succ_cons, natOfBytes_cons, length, Nat.mul_comm]
    rfl
  rw [length] at small
  rw [← BitVec.testBit_toNat, linkAddrAt_toNat, value, Nat.testBit_two_pow_mul_add _ small]
  rfl

theorem GroupEntry.accepts_iff (g : GroupEntry) (h : 6 ≤ f.length) (hm : g.matchLen ≤ 6) :
    g.accepts (linkAddrAt f 0) = true ↔ g.inUse = true ∧ f.take g.matchLen = (bytesOfBits 6 g.addr).take g.matchLen := by
  have addr : g.addr.toNat = natOfBytes (bytesOfBits 6 g.addr) := by
    rw [bytesOfBits, natOfBytes_bytesOfNat]
    exact (Nat.mod_eq_of_lt g.addr.isLt).symm
  have lengths : (f.take 6).length = 6 := by
    rw [List.length_take]
    omega
  have first : (f.take 6).take g.matchLen = f.take g.matchLen := by rw [List.take_take, Nat.min_eq_left hm]
  rw [GroupEntry.accepts, Bool.and_eq_true, decide_eq_true_iff, linkAddrAt_toNat, addr,
    div_eq_iff_take_eq lengths (bytesOfBits_length _ _), first]

theorem groupSet_foldl (b : Fin 8 → Bool) (l : List (Fin 8)) (set : BitVec 8) (k : Fin 8) :
    (l.foldl (fun set i => if b i then set ||| BitVec.twoPow 8 i.val else set) set).getLsbD k.val = true ↔
      set.getLsbD k.val = true ∨ (k ∈ l ∧ b k = true) := by
  induction l generalizing set with
  | nil => simp
  | cons j l ih =>
    have bit : (BitVec.twoPow 8 j.val).getLsbD k.val = decide (k = j) := by
      simp [Fin.ext_iff]
    rw [List.foldl_cons, ih, List.mem_cons]
    cases hb : b j with
    | false =>
      have skip : k = j → b k ≠ true := by
        rintro rfl
        simp [hb]
      simp only [Bool.false_eq_true, if_false]
      tauto
    | true =>
      have take : k = j → b k = true := by
        rintro rfl
        exact hb
      simp only [if_true, BitVec.getLsbD_or, bit, Bool.or_eq_true, decide_eq_true_iff]
      tauto

theorem groupSet_iff (h : 6 ≤ f.length) (k : Fin 8) (hm : (s.groups[k]).matchLen ≤ 6) :
    (groupSet s (linkAddrAt f 0)).getLsbD k.val = true ↔ (s.groups[k]).inUse = true ∧
      f.take (s.groups[k]).matchLen = (bytesOfBits 6 (s.groups[k]).addr).take (s.groups[k]).matchLen := by
  rw [groupSet, groupSet_foldl, ← GroupEntry.accepts_iff _ h hm]
  simp

theorem groupSet_eq_iff (h : 6 ≤ f.length) (hm : ∀ k : Fin 8, (s.groups[k]).matchLen ≤ 6) (set : BitVec 8) :
    groupSet s (linkAddrAt f 0) = set ↔ ∀ k : Fin 8, (set.getLsbD k.val = true ↔ (s.groups[k]).inUse = true ∧
      f.take (s.groups[k]).matchLen = (bytesOfBits 6 (s.groups[k]).addr).take (s.groups[k]).matchLen) := by
  refine ⟨fun is k => by rw [← is, groupSet_iff h k (hm k)], fun bits => BitVec.eq_of_getLsbD_eq fun k hk => ?_⟩
  exact Bool.eq_iff_iff.2 ((groupSet_iff h ⟨k, hk⟩ (hm ⟨k, hk⟩)).trans (bits ⟨k, hk⟩).symm)

theorem destClass_iff (h : 14 ≤ f.length) (hm : ∀ k : Fin 8, (s.groups[k]).matchLen ≤ 6) :
    destClass s f = some c ↔ DestIs s f c := by
  have six : 6 ≤ f.length := by omega
  have own : linkAddrAt f 0 = s.station.ownAddr ↔ f.take 6 = bytesOfBits 6 s.station.ownAddr := linkAddrAt_eq_iff (off := 0) six
  have all : linkAddrAt f 0 = BitVec.allOnes 48 ↔ f.take 6 = List.replicate 6 0xFF := linkAddrAt_eq_iff (off := 0) six
  have group := linkAddrAt_group_bit six
  rw [destClass]
  dsimp only
  simp only [own, all, group]
  by_cases isOwn : f.take 6 = bytesOfBits 6 s.station.ownAddr
  · rw [if_pos isOwn]
    cases c <;> simp [DestIs, isOwn]
  rw [if_neg isOwn]
  by_cases isAll : f.take 6 = List.replicate 6 0xFF
  · rw [if_pos isAll]
    cases c with
    | own => exact iff_of_false (by simp) isOwn
    | broadcast => exact iff_of_true rfl ⟨isOwn, isAll⟩
    | group set => exact iff_of_false (by simp) fun ⟨_, notAll, _⟩ => notAll isAll
  rw [if_neg isAll]
  cases bit : (f.getD 0 0).getLsbD 0 with
  | false => cases c <;> simp only [DestIs, isOwn, isAll, bit] <;> simp
  | true =>
    rw [if_pos rfl]
    cases c with
    | own =>
      simp only [DestIs, isOwn]
      split <;> simp
    | broadcast =>
      simp only [DestIs, isAll, and_false]
      split <;> simp
    | group set =>
      rw [DestIs, ← groupSet_eq_iff six hm]
      by_cases none : groupSet s (linkAddrAt f 0) = 0
      · simp only [none, if_true]
        refine iff_of_false (by simp) fun ⟨_, _, _, nonempty, is⟩ => nonempty is.symm
      · rw [if_neg none]
        simp only [Option.some.injEq, DestClass.group.injEq, isOwn, isAll, bit, not_false_eq_true, true_and, ne_eq]
        exact ⟨fun is => ⟨is ▸ none, is⟩, fun ⟨_, is⟩ => is⟩

/-! ### O37 -/

/-- Settles O37. -/
theorem destination_stage_follows_the_table : Obligations.Destination_stage_follows_the_table := by
  refine ⟨fun f low high plain => normalise_of_untagged ⟨low, high⟩ plain,
    fun f low high tag => normalise_of_tagged ⟨low, high⟩ tag, fun s f c h hm => destClass_iff h hm,
    fun s frame f heard served normal noDest => ?_⟩
  exact exec_receivedFrame_of_classify heard served (classify_of_no_dest normal noDest) rfl

/-! ### Patterns and rules (R33 to R36, R113) -/

theorem findSome?_finRange_eq_some {n : Nat} {α : Type} {g : Fin n → Option α} {i : Fin n} {a : α} :
    ((List.finRange n).findSome? fun i => (g i).map fun m => (i, m)) = some (i, a) ↔
      g i = some a ∧ ∀ j, j < i → g j = none := by
  rw [← Fin.findSome?_eq_findSome?_finRange, Fin.findSome?_eq_some_iff]
  simp only [Option.map_eq_some_iff, Option.map_eq_none_iff, Prod.mk.injEq]
  refine ⟨fun ⟨k, ⟨b, hb, hk, hab⟩, first⟩ => ?_, fun ⟨here, first⟩ => ⟨i, ⟨a, here, rfl, rfl⟩, first⟩⟩
  subst hk hab
  exact ⟨hb, first⟩

/-- A test over two lists side by side is a test at every place of the shorter. -/
theorem all_zip_iff {α β : Type} {p : α × β → Bool} {as : List α} {bs : List β} (a : α) (b : β) (h : as.length ≤ bs.length) :
    (as.zip bs).all p = true ↔ ∀ k, k < as.length → p (as.getD k a, bs.getD k b) = true := by
  rw [List.all_eq_true, List.forall_mem_iff_forall_getElem]
  simp only [List.length_zip, Nat.min_eq_left h, List.getElem_zip]
  refine forall_congr' fun k => forall_congr' fun hk => ?_
  rw [List.getD_eq_getElem _ _ hk, List.getD_eq_getElem _ _ (hk.trans_le h)]

theorem CompareItem.passes_iff (c : CompareItem) (f : Frame) : c.passes f = true ↔ ItemPasses c f := by
  rw [CompareItem.passes, Bool.and_eq_true, decide_eq_true_iff, ItemPasses]
  refine and_congr_right fun inside => ?_
  rw [all_zip_iff (0, 0) 0 (by rw [List.length_drop]; omega)]
  simp

theorem EchoItem.passes_iff (e : EchoItem) (counter : BitVec 32) (f : Frame) (hw : e.width ≤ 4) :
    e.passes counter f = true ↔ e.offset + e.width ≤ f.length ∧
      (f.drop e.offset).take e.width = (bytesOfBits 4 counter).drop (4 - e.width) := by
  rw [EchoItem.passes, beq_iff_eq, field?, drop_bytesOfBits counter hw]
  by_cases inside : e.offset + e.width ≤ f.length
  · simp only [inside, if_true, Option.some.injEq, true_and, readNat_eq_mod_iff inside]
    rfl
  · simp [inside]

theorem Pattern.passes_iff (p : Pattern) (counter : BitVec 32) (f : Frame) (hw : ∀ x ∈ p.echo, x.width ≤ 4) :
    p.passes counter f = true ↔ PatternMatches p counter f := by
  rw [Pattern.passes, Bool.and_eq_true, List.all_eq_true, Option.all_eq_true, PatternMatches]
  exact and_congr (forall₂_congr fun c _ => c.passes_iff f) (forall₂_congr fun e he => e.passes_iff counter f (hw e he))

theorem AddrRef.value?_iff (a : AddrRef) (f : Frame) (v : NetAddr) :
    a.value? f = some v ↔ v.kind = a.kind ∧ a.offset + a.kind.size ≤ f.length ∧
      (f.drop a.offset).take a.kind.size = v.bytes := by
  rw [AddrRef.value?]
  cases a.kind with
  | short =>
    rw [field?]
    by_cases inside : a.offset + 4 ≤ f.length
    · cases v with
      | short x =>
        simp only [inside, if_true, Option.map_some, Option.some.injEq, NetAddr.short.injEq, ofNat_readNat_eq_iff rfl inside]
        simp [NetAddr.kind, AddrKind.size, NetAddr.bytes, inside, slice]
      | long x => simp [NetAddr.kind]
    · simp [inside, AddrKind.size]
  | long =>
    simp only [field?]
    by_cases inside : a.offset + 16 ≤ f.length
    · cases v with
      | short x => simp [inside, NetAddr.kind]
      | long x =>
        simp only [inside, if_true, Option.map_some, Option.some.injEq, NetAddr.long.injEq, ofNat_readNat_eq_iff rfl inside]
        simp [NetAddr.kind, AddrKind.size, NetAddr.bytes, inside, slice]
    · simp [inside, AddrKind.size]

theorem matchEntry_iff (inv : EntryInv s) (action : Action) (v : NetAddr) (i : Fin 16) :
    matchEntry s action v = some i ↔
      ∃ e, s.entries[i] = some e ∧ e.value = v ∧ (e.state ≠ .lost ∨ action = .claim) := by
  have here : ∀ j : Fin 16, ((s.entries[j]).any fun e => e.value == v && (e.state != .lost || action == .claim)) = true ↔
      ∃ e, s.entries[j] = some e ∧ e.value = v ∧ (e.state ≠ .lost ∨ action = .claim) := fun j => by
    rw [Option.any_eq_true]
    simp
  rw [matchEntry, find?_finRange_eq_some, here]
  refine and_iff_left_of_imp fun ⟨e, he, value, _⟩ j lower => ?_
  rw [← Bool.not_eq_true, here]
  rintro ⟨e', he', value', _⟩
  exact inv.distinct i j (ne_of_gt lower) e he e' he' (value.trans value'.symm)

theorem Rule.destPasses_iff (r : Rule) (c : DestClass) : r.destPasses c = true ↔
    match c with
    | .own => r.destOwn = true
    | .broadcast => r.destBroadcast = true
    | .group set => ∃ k : Fin 8, set.getLsbD k.val = true ∧ r.groups.getLsbD k.val = true := by
  cases c with
  | own => rfl
  | broadcast => rfl
  | group set =>
    have bits : set &&& r.groups = 0 ↔ ∀ k : Fin 8, ¬(set.getLsbD k.val = true ∧ r.groups.getLsbD k.val = true) := by
      refine ⟨fun none k both => ?_, fun none => BitVec.eq_of_getLsbD_eq fun k hk => ?_⟩
      · have zero : (set &&& r.groups).getLsbD k.val = false := by
          rw [none]
          exact BitVec.getLsbD_zero
        rw [BitVec.getLsbD_and, both.1, both.2] at zero
        cases zero
      · have clear := none ⟨k, hk⟩
        rw [← Bool.and_eq_true, Bool.not_eq_true] at clear
        exact (BitVec.getLsbD_and).trans (clear.trans BitVec.getLsbD_zero.symm)
    refine decide_eq_true_iff.trans ((not_congr bits).trans ?_)
    simp only [not_forall, not_not]

theorem Rule.typePasses_iff (r : Rule) (h : 14 ≤ f.length) :
    r.typePasses f = true ↔ ∀ t ∈ r.ethertype, (f.drop 12).take 2 = bytesOfBits 2 t := by
  rw [Rule.typePasses, Option.all_eq_true]
  refine forall₂_congr fun t _ => ?_
  exact decide_eq_true_iff.trans (readNat_eq_toNat_iff (w := 2) (by decide) (by omega))

theorem Rule.refPasses_iff (inv : EntryInv s) (r : Rule) (f : Frame) : r.refPasses s f = some m ↔
    match r.addrRef with
    | none => m = none
    | some a => (r.action = .claim → r.claimantOffset + 6 ≤ f.length) ∧
        ∃ i e, m = some i ∧ s.entries[i] = some e ∧ e.value.kind = a.kind ∧ a.offset + a.kind.size ≤ f.length ∧
          (f.drop a.offset).take a.kind.size = e.value.bytes ∧ (e.state ≠ .lost ∨ r.action = .claim) := by
  rw [Rule.refPasses]
  cases r.addrRef with
  | none => simp [eq_comm]
  | some a =>
    by_cases beyond : r.action = .claim ∧ f.length < r.claimantOffset + 6
    · simp only [beyond, and_self, if_true]
      exact iff_of_false (by simp) fun ⟨inside, _⟩ => absurd (inside trivial) (by omega)
    · have inside : r.action = .claim → r.claimantOffset + 6 ≤ f.length := fun claim => by
        by_contra out
        exact beyond ⟨claim, by omega⟩
      simp only [if_neg beyond, Option.bind_eq_some_iff, Option.map_eq_some_iff, AddrRef.value?_iff, matchEntry_iff inv]
      refine ⟨fun ⟨v, ⟨kind, fits, bytes⟩, i, ⟨e, here, value, state⟩, is⟩ => ?_,
        fun ⟨_, i, e, is, here, kind, fits, bytes, state⟩ =>
          ⟨e.value, ⟨kind, fits, bytes⟩, i, ⟨e, here, rfl, state⟩, is.symm⟩⟩
      subst value
      exact ⟨inside, i, e, is.symm, here, kind, fits, bytes, state⟩

theorem Rule.test_iff (inv : EntryInv s) (r : Rule) (h : 14 ≤ f.length) :
    r.test s c f = some m ↔ RulePasses s r c f m := by
  have tests : (r.inUse && r.destPasses c && r.typePasses f && r.items.all fun i => i.passes f) = true ↔
      ((r.inUse = true ∧ r.destPasses c = true) ∧ r.typePasses f = true) ∧ ∀ i ∈ r.items, ItemPasses i f := by
    simp only [Bool.and_eq_true, List.all_eq_true, CompareItem.passes_iff]
  rw [r.destPasses_iff, r.typePasses_iff h] at tests
  rw [Rule.test]
  constructor
  · intro passed
    split at passed
    · next all =>
      obtain ⟨⟨⟨inUse, dest⟩, type⟩, items⟩ := tests.1 all
      exact ⟨inUse, dest, type, items, (r.refPasses_iff inv f).1 passed⟩
    · cases passed
  · rintro ⟨inUse, dest, type, items, ref⟩
    rw [if_pos (tests.2 ⟨⟨⟨inUse, dest⟩, type⟩, items⟩)]
    exact (r.refPasses_iff inv f).2 ref

/-! ### O38 -/

/-- What the offer asks of a duty (R29, R113), with the patterns read declaratively. -/
theorem offers_iff (widths : ∀ u ∈ (s.duties[d]).duty, ∀ q, u.profile.reply = some q ∨ u.profile.reject = some q →
      ∀ x ∈ q.echo, x.width ≤ 4) :
    (isOffered s d && (replyMatches s d f || rejectMatches s d f)) = true ↔
      Leave s d ∧ ∃ u, (s.duties[d]).duty = some u ∧ u.run.state = .awaiting ∧
        ((∃ q, u.profile.reply = some q ∧ PatternMatches q u.run.counter f) ∨
          ∃ q, u.profile.reject = some q ∧ PatternMatches q u.run.counter f) := by
  rw [Bool.and_eq_true, Bool.or_eq_true, isOffered_iff, and_assoc]
  refine and_congr_right fun _ => ?_
  cases hu : (s.duties[d]).duty with
  | none => simp
  | some u =>
    have reply : (∃ q, u.profile.reply = some q ∧ q.passes u.run.counter f = true) ↔
        ∃ q, u.profile.reply = some q ∧ PatternMatches q u.run.counter f :=
      exists_congr fun q => and_congr_right fun hq => q.passes_iff _ _ (widths u hu q (.inl hq))
    have reject : (∃ q, u.profile.reject = some q ∧ q.passes u.run.counter f = true) ↔
        ∃ q, u.profile.reject = some q ∧ PatternMatches q u.run.counter f :=
      exists_congr fun q => and_congr_right fun hq => q.passes_iff _ _ (widths u hu q (.inr hq))
    rw [replyMatches_iff hu, rejectMatches_iff hu, reply, reject]
    simp

/-- Settles O38: both walks answer the first place of their table, and the tests at a place are the declarative ones. -/
theorem frames_go_to_the_first_that_matches : Obligations.Frames_go_to_the_first_that_matches := by
  refine ⟨fun s f d widths => ?_, fun s f c i m inv h => ?_⟩
  · rw [offeredDuty, find?_finRange_eq_some]
    refine and_congr (offers_iff (widths d)) (forall₂_congr fun e _ => ?_)
    rw [← Bool.not_eq_true]
    exact not_congr (offers_iff (widths e))
  · rw [walkRules, findSome?_finRange_eq_some]
    refine and_congr (Rule.test_iff inv _ h) (forall₂_congr fun k _ => ?_)
    rw [Option.eq_none_iff_forall_ne_some]
    exact forall_congr' fun n => not_congr (Rule.test_iff inv _ h)

end Sys2Proof.Machine
end

section
/-! SUPPORT. The Internet checksum (4.4): word sums, the fold, the bytes a SUM16 patch stores and the sum of the range it covers; then
obligation O50. -/

namespace Sys2Proof.Machine

variable {buf ws : List Byte} {off n store start stop addrA addrB range total : Nat} {pseudo : PseudoKind} {protocol : Byte}

/-! ### Word sums (R77) -/

theorem wordSum_eq_sum (bytes : List Byte) : wordSum bytes =
    ((List.range ((bytes.length + 1) / 2)).map fun k =>
      256 * (bytes.getD (2 * k) 0).toNat + (bytes.getD (2 * k + 1) 0).toNat).sum := by
  induction bytes using wordSum.induct with
  | case1 => rfl
  | case2 hi => simp [wordSum, Nat.mul_comm]
  | case3 hi lo rest ih =>
    have count : ((hi :: lo :: rest).length + 1) / 2 = (rest.length + 1) / 2 + 1 := by
      simp only [List.length_cons]
      omega
    rw [wordSum, ih, count, List.range_succ_eq_map, List.map_cons, List.map_map, List.sum_cons, Nat.mul_comm hi.toNat]
    rfl

theorem wordSum_le (bytes : List Byte) : wordSum bytes ≤ 65535 * ((bytes.length + 1) / 2) := by
  induction bytes using wordSum.induct with
  | case1 => simp [wordSum]
  | case2 hi =>
    have := hi.isLt
    simp only [wordSum, List.length_cons, List.length_nil]
    omega
  | case3 hi lo rest ih =>
    have := hi.isLt
    have := lo.isLt
    simp only [wordSum, List.length_cons]
    omega

theorem wordSum_word (b : Byte) : wordSum [0, b] = b.toNat := by simp [wordSum]

theorem wordSum_bytesOfNat_two (n : Nat) : wordSum (bytesOfNat 2 n) = n % 65536 := by
  simp only [bytesOfNat, wordSum, BitVec.toNat_ofNat]
  omega

theorem wordSum_bytesOfNat_four (h : n ≤ 1514) : wordSum (bytesOfNat 4 n) = n := by
  simp only [bytesOfNat, wordSum, BitVec.toNat_ofNat]
  omega

/-! ### The fold (R79) -/

theorem fold16_mod (fuel v : Nat) : fold16 fuel v % 65535 = v % 65535 := by
  induction fuel generalizing v with
  | zero => rfl
  | succ fuel ih =>
    rw [fold16]
    split
    · rfl
    · rw [ih]
      omega

theorem fold16_pos {fuel v : Nat} (h : 0 < v) : 0 < fold16 fuel v := by
  induction fuel generalizing v with
  | zero => exact h
  | succ fuel ih =>
    rw [fold16]
    split
    · exact h
    · exact ih (by omega)

theorem fold16_of_lt {fuel v : Nat} (h : v < 65536) : fold16 fuel v = v := by
  cases fuel with
  | zero => rfl
  | succ fuel => rw [fold16, if_pos h]

theorem fold16_lt {fuel v : Nat} (h : v < 2 ^ 32) : fold16 (fuel + 2) v < 65536 := by
  rw [fold16]
  split
  · assumption
  · rw [fold16]
    split
    · assumption
    · rw [fold16_of_lt (by omega)]
      omega

/-- The fold of a sum is its representative from 1 to 65535, and zero for the empty sum alone. -/
theorem fold16_eq (h : total < 2 ^ 32) :
    fold16 32 total = if total = 0 then 0 else if total % 65535 = 0 then 65535 else total % 65535 := by
  have mod := fold16_mod 32 total
  have lt : fold16 32 total < 65536 := fold16_lt (fuel := 30) h
  split
  · next zero => rw [zero, fold16_of_lt (by decide)]
  · next nonzero =>
    have pos : 0 < fold16 32 total := fold16_pos (Nat.pos_of_ne_zero nonzero)
    split <;> omega

/-! ### Pieces of an overwritten list -/

theorem slice_overlay_before (fits : store + ws.length ≤ buf.length) (h : off + n ≤ store) :
    slice (overlay buf store ws) off n = slice buf off n := by
  have length : (buf.take store).length = store := List.length_take_of_le (by omega)
  rw [overlay_eq buf store ws fits, List.append_assoc, slice, List.drop_append_of_le_length (by omega),
    List.take_append_of_le_length (by rw [List.length_drop, length]; omega), List.drop_take, List.take_take,
    Nat.min_eq_left (by omega), slice]

theorem slice_overlay_after (fits : store + ws.length ≤ buf.length) (h : store + ws.length ≤ off) :
    slice (overlay buf store ws) off n = slice buf off n := by
  have length : (buf.take store ++ ws).length = store + ws.length := by
    rw [List.length_append, List.length_take_of_le (by omega)]
  rw [overlay_eq buf store ws fits, slice_append_right _ _ _ _ (length.trans_le h), length, slice, List.drop_drop,
    Nat.add_sub_cancel' h, slice]

/-- A piece that covers what was written: the bytes before it, it, and the bytes after it. -/
theorem slice_overlay_across (fits : store + ws.length ≤ buf.length) (low : start ≤ store) (high : store + ws.length ≤ stop) :
    slice (overlay buf store ws) start (stop - start) =
      slice buf start (store - start) ++ (ws ++ slice buf (store + ws.length) (stop - (store + ws.length))) := by
  have length : (buf.take store).length = store := List.length_take_of_le (by omega)
  have before : ((buf.take store).drop start).length = store - start := by rw [List.length_drop, length]
  have rest : stop - start - (store - start) - ws.length = stop - (store + ws.length) := by omega
  rw [overlay_eq buf store ws fits, List.append_assoc, slice, List.drop_append_of_le_length (by omega), List.take_append,
    List.take_append, before, rest, List.take_of_length_le (before.trans_le (by omega)),
    List.take_of_length_le (l := ws) (by omega), List.drop_take, slice, slice]

/-- Written over an even place of a range, a word adds itself to the range's sum. -/
theorem wordSum_overlay {x : Nat} (fits : store + 2 ≤ buf.length) (low : start ≤ store) (even : (store - start) % 2 = 0)
    (high : store + 2 ≤ stop) (hx : x ≤ 65535) :
    wordSum (slice (overlay buf store (bytesOfNat 2 x)) start (stop - start)) =
      wordSum (slice (overlay buf store [0, 0]) start (stop - start)) + x := by
  have pre : (slice buf start (store - start)).length % 2 = 0 := by rw [slice_length (by omega), even]
  rw [slice_overlay_across fits low high, slice_overlay_across fits low high, wordSum_append _ _ pre, wordSum_append _ _ pre,
    wordSum_append (bytesOfNat 2 x) _ (by simp), wordSum_append [0, 0] _ rfl, wordSum_bytesOfNat_two]
  have zero : wordSum [0, 0] = 0 := rfl
  have length : (bytesOfNat 2 x).length = [(0 : Byte), 0].length := rfl
  rw [zero, length]
  omega

/-! ### The pseudo-header (R78) -/

/-- The bytes of an address a pseudo-header reads. -/
def addressSize : PseudoKind → Nat
  | .none => 0
  | .short => 4
  | .long => 16

theorem pseudoSum_short (h : range ≤ 1514) (hA : addrA + 4 ≤ buf.length) (hB : addrB + 4 ≤ buf.length) :
    pseudoSum buf range .short addrA addrB protocol =
      wordSum (slice buf addrA 4 ++ slice buf addrB 4 ++ [0, protocol] ++ bytesOfNat 2 range) := by
  have lengthA := slice_length hA
  have lengthB := slice_length hB
  rw [wordSum_append _ _ (by simp [lengthA, lengthB]), wordSum_append _ _ (by simp [lengthA, lengthB]),
    wordSum_append _ _ (by simp [lengthA]), wordSum_word, wordSum_bytesOfNat_two, Nat.mod_eq_of_lt (by omega)]
  rfl

theorem pseudoSum_long (h : range ≤ 1514) (hA : addrA + 16 ≤ buf.length) (hB : addrB + 16 ≤ buf.length) :
    pseudoSum buf range .long addrA addrB protocol =
      wordSum (slice buf addrA 16 ++ slice buf addrB 16 ++ bytesOfNat 4 range ++ [0, protocol]) := by
  have lengthA := slice_length hA
  have lengthB := slice_length hB
  rw [wordSum_append _ _ (by simp [lengthA, lengthB]), wordSum_append _ _ (by simp [lengthA, lengthB]),
    wordSum_append _ _ (by simp [lengthA]), wordSum_word, wordSum_bytesOfNat_four h]
  simp only [pseudoSum]
  omega

theorem wordSum_slice_le (bytes : List Byte) (off n : Nat) : wordSum (slice bytes off n) ≤ 65535 * ((n + 1) / 2) :=
  (wordSum_le _).trans (Nat.mul_le_mul_left _ (Nat.div_le_div_right (Nat.add_le_add_right (length_slice_le _ _ _) 1)))

theorem pseudoSum_le (h : range ≤ 1514) : pseudoSum buf range pseudo addrA addrB protocol ≤ 2 ^ 24 := by
  have byte := protocol.isLt
  cases pseudo with
  | none => exact Nat.zero_le _
  | short =>
    have a := wordSum_slice_le buf addrA 4
    have b := wordSum_slice_le buf addrB 4
    simp only [pseudoSum]
    omega
  | long =>
    have a := wordSum_slice_le buf addrA 16
    have b := wordSum_slice_le buf addrB 16
    simp only [pseudoSum]
    omega

theorem pseudoSum_congr {buf' : List Byte}
    (hA : pseudo = .none ∨ slice buf' addrA (addressSize pseudo) = slice buf addrA (addressSize pseudo))
    (hB : pseudo = .none ∨ slice buf' addrB (addressSize pseudo) = slice buf addrB (addressSize pseudo)) :
    pseudoSum buf' range pseudo addrA addrB protocol = pseudoSum buf range pseudo addrA addrB protocol := by
  cases pseudo with
  | none => rfl
  | short =>
    simp only [addressSize, reduceCtorEq, false_or] at hA hB
    rw [pseudoSum, pseudoSum, hA, hB]
  | long =>
    simp only [addressSize, reduceCtorEq, false_or] at hA hB
    rw [pseudoSum, pseudoSum, hA, hB]

theorem slice_overlay_outside (fits : store + ws.length ≤ buf.length) (h : off + n ≤ store ∨ store + ws.length ≤ off) :
    slice (overlay buf store ws) off n = slice buf off n :=
  h.elim (slice_overlay_before fits) (slice_overlay_after fits)

/-! ### The checksum stored (R79) -/

/-- What a SUM16 patch sums: the range and the pseudo-header, the store field read as zero. -/
def summed (buf : List Byte) (start stop store : Nat) (pseudo : PseudoKind) (addrA addrB : Nat) (protocol : Byte) : Nat :=
  wordSum (slice (overlay buf store [0, 0]) start (stop - start)) +
    pseudoSum (overlay buf store [0, 0]) (stop - start) pseudo addrA addrB protocol

/-- The value a SUM16 patch stores for a sum. -/
def stored (total : Nat) (zeroAsOnes : Bool) : Nat :=
  if total = 0 then 65535
  else if total % 65535 = 0 then (if zeroAsOnes then 65535 else 0)
  else 65535 - total % 65535

theorem stored_le (total : Nat) (zeroAsOnes : Bool) : stored total zeroAsOnes ≤ 65535 := by
  unfold stored
  split
  · exact le_refl _
  · split
    · split <;> omega
    · omega

/-- The sum and what is stored for it complete each other. -/
theorem add_stored (total : Nat) (zeroAsOnes : Bool) :
    0 < total + stored total zeroAsOnes ∧ (total + stored total zeroAsOnes) % 65535 = 0 := by
  unfold stored
  split
  · omega
  · split
    · split <;> omega
    · omega

theorem summed_lt (h : stop - start ≤ 1514) : summed buf start stop store pseudo addrA addrB protocol ≤ 2 ^ 26 := by
  have words := wordSum_slice_le (overlay buf store [0, 0]) start (stop - start)
  have header := pseudoSum_le (buf := overlay buf store [0, 0]) (pseudo := pseudo) (addrA := addrA) (addrB := addrB)
    (protocol := protocol) h
  unfold summed
  omega

theorem sum16Bytes_eq (h : stop - start ≤ 1514) (zeroAsOnes : Bool) :
    sum16Bytes buf start stop store pseudo addrA addrB protocol zeroAsOnes =
      bytesOfNat 2 (stored (summed buf start stop store pseudo addrA addrB protocol) zeroAsOnes) := by
  have small := summed_lt (buf := buf) (store := store) (pseudo := pseudo) (addrA := addrA) (addrB := addrB)
    (protocol := protocol) h
  have fold := fold16_eq (total := summed buf start stop store pseudo addrA addrB protocol) (by omega)
  refine congrArg (bytesOfNat 2) ?_
  change (if ((65535 - fold16 32 (summed buf start stop store pseudo addrA addrB protocol) = 0 : Bool) && zeroAsOnes) = true
    then 65535 else 65535 - fold16 32 (summed buf start stop store pseudo addrA addrB protocol)) = _
  rw [fold, stored]
  by_cases zero : summed buf start stop store pseudo addrA addrB protocol = 0
  · simp [zero]
  · by_cases mod : summed buf start stop store pseudo addrA addrB protocol % 65535 = 0
    · simp [zero, mod]
    · have positive : 65535 - summed buf start stop store pseudo addrA addrB protocol % 65535 ≠ 0 := by omega
      simp only [zero, mod, if_false, positive, decide_false, Bool.false_and, Bool.false_eq_true]

theorem fold16_complete (h : total ≤ 2 ^ 26) (zeroAsOnes : Bool) : fold16 32 (total + stored total zeroAsOnes) = 65535 := by
  obtain ⟨pos, mod⟩ := add_stored total zeroAsOnes
  have le := stored_le total zeroAsOnes
  rw [fold16_eq (by omega), if_neg (by omega), if_pos mod]

/-- With the store field word-aligned in the range and outside the addresses read, the sum of the range is all ones. -/
theorem sum16_verifies (fits : store + 2 ≤ buf.length) (h : stop - start ≤ 1514) (zeroAsOnes : Bool) (low : start ≤ store)
    (even : (store - start) % 2 = 0) (high : store + 2 ≤ stop)
    (hA : pseudo = .none ∨ addrA + addressSize pseudo ≤ store ∨ store + 2 ≤ addrA)
    (hB : pseudo = .none ∨ addrB + addressSize pseudo ≤ store ∨ store + 2 ≤ addrB) :
    let out := overlay buf store (sum16Bytes buf start stop store pseudo addrA addrB protocol zeroAsOnes)
    fold16 32 (wordSum (slice out start (stop - start)) + pseudoSum out (stop - start) pseudo addrA addrB protocol) = 65535 := by
  intro out
  let x := stored (summed buf start stop store pseudo addrA addrB protocol) zeroAsOnes
  have is : out = overlay buf store (bytesOfNat 2 x) := congrArg (overlay buf store) (sum16Bytes_eq h zeroAsOnes)
  have read : ∀ addr, pseudo = .none ∨ addr + addressSize pseudo ≤ store ∨ store + 2 ≤ addr →
      pseudo = .none ∨ slice out addr (addressSize pseudo) = slice (overlay buf store [0, 0]) addr (addressSize pseudo) :=
    fun addr outside => outside.imp_right fun off => by
      rw [is, slice_overlay_outside fits off, slice_overlay_outside fits off]
  rw [pseudoSum_congr (read addrA hA) (read addrB hB), is, wordSum_overlay fits low even high (stored_le _ _), Nat.add_right_comm]
  exact fold16_complete (summed_lt h) zeroAsOnes

/-! ### The frame finished (R80, R81) and the templates frames are built from -/

theorem bytesOfNat_vlan (v : BitVec 12) : bytesOfNat 2 v.toNat = [(v.extractLsb' 8 4).setWidth 8, v.setWidth 8] := by
  have high : BitVec.ofNat 8 (v.toNat / 256 ^ 1) = (v.extractLsb' 8 4).setWidth 8 := by
    refine BitVec.eq_of_toNat_eq ?_
    have small := v.isLt
    simp only [BitVec.toNat_ofNat, BitVec.toNat_setWidth, BitVec.extractLsb'_toNat, Nat.shiftRight_eq_div_pow]
    omega
  have low : BitVec.ofNat 8 (v.toNat / 256 ^ 0) = v.setWidth 8 := by
    rw [Nat.pow_zero, Nat.div_one, BitVec.ofNat_toNat]
  rw [bytesOfNat, bytesOfNat, bytesOfNat, high, low]

theorem buildFrame_untagged {s : State} (h : s.station.vlan = none) (template : List Byte) (patches : List Patch)
    (ops : BuildOperands) : buildFrame s template patches ops =
      patches.foldl (applyPatch s ops) template ++ List.replicate (60 - template.length) 0 := by
  rw [buildFrame, h, tagFrame, padFrame, patched_length]

theorem buildFrame_tagged {s : State} {v : BitVec 12} (h : s.station.vlan = some v) (template : List Byte)
    (patches : List Patch) (ops : BuildOperands) :
    let body := patches.foldl (applyPatch s ops) template ++ List.replicate (60 - template.length) 0
    buildFrame s template patches ops =
      body.take 12 ++ [0x81, 0x00, (v.extractLsb' 8 4).setWidth 8, v.setWidth 8] ++ body.drop 12 := by
  rw [buildFrame, h, tagFrame, padFrame, patched_length, bytesOfNat_vlan]
  simp

/-! ### O50 -/

/-- Settles O50: a word-aligned store adds its value to the sum of the range, which `add_stored` makes a multiple of 65535. -/
theorem checksums_verify_and_frames_are_finished : Obligations.Checksums_verify_and_frames_are_finished := by
  refine ⟨wordSum_eq_sum, fun buf range addrA addrB protocol h => ⟨rfl, pseudoSum_short h, pseudoSum_long h⟩, ?_, ?_, ?_⟩
  · intro s ops buf start stop store addrA addrB pseudo protocol zeroAsOnes fits h out zeroed total size
    have width : size = addressSize pseudo := by cases pseudo <;> rfl
    have zeroed_eq : overlay buf store [0, 0] = zeroed := overlay_eq buf store [0, 0] fits
    have total_eq : summed buf start stop store pseudo addrA addrB protocol = total := by rw [summed, zeroed_eq]
    have bytes := sum16Bytes_eq (buf := buf) (store := store) (pseudo := pseudo) (addrA := addrA) (addrB := addrB)
      (protocol := protocol) h zeroAsOnes
    refine ⟨?_, fun low even high _ hA hB => ?_⟩
    · rw [total_eq] at bytes
      refine (congrArg (overlay buf store) bytes).trans ((overlay_eq buf store _ ?_).trans ?_)
      · rw [bytesOfNat_length]
        exact fits
      · rw [bytesOfNat_length]
        rfl
    · rw [width] at hA hB
      exact sum16_verifies fits h zeroAsOnes low even high hA hB
  · intro s template patches ops _ _ body
    have length : body.length = max 60 template.length := by
      rw [List.length_append, patched_length, List.length_replicate]
      omega
    exact ⟨length, fun untagged => buildFrame_untagged untagged template patches ops,
      fun v tagged => buildFrame_tagged tagged template patches ops⟩
  · intro s id template pool loaded
    have found := template?_of_mem s id template pool.ids loaded
    refine ⟨fun list request matched => ?_, fun u uses => ?_⟩
    · rw [buildAnswer, found, patchesOf_eq]
      rfl
    · rw [buildDuty, uses, found, patchesOf_eq]
      rfl

end Sys2Proof.Machine
end

section
/-! SUPPORT. The consistency of a duty's run-time state: the condition a run must meet before each step of the scheduler, and the
consistent state the step leaves. -/

namespace Sys2Proof.Machine

variable {s t : State} {d : Fin 12} {p : DutyProfile} {r : DutyRun} {stuck stuck' : Prop}

/-! ### A consistent run-time state (R105, R107, R115, R116) -/

/-- The clauses of `DutyInv` about one duty's run-time state; `stuck` says it is a probe that waits for its restart. -/
structure DutyRun.Fits (stuck : Prop) (p : DutyProfile) (r : DutyRun) : Prop where
  pending : r.pending.isSome = true ↔ r.state = .deferred
  void : r.void = true → r.state = .queued
  tries : 1 ≤ r.triesAllowed ∧ r.triesAllowed ≤ 4 ∧ r.triesUsed ≤ r.triesAllowed
  tries_left : r.state = .queued ∨ r.state = .blocked ∨ r.state = .awaiting ∨ r.pending = some .try_ →
    r.triesUsed < r.triesAllowed
  rounds : p.roundsLimit = 0 ∨ r.failedRounds < p.roundsLimit ∨
    (r.failedRounds = p.roundsLimit ∧
      (r.state = .failed ∨ r.state = .suspended ∨ (stuck ∧ r.pending = some .newRun)))
  fresh_run : r.state = .waiting ∨ r.pending = some .newRun → r.failedRounds = 0 ∨ (stuck ∧ r.pending = some .newRun)

/-- The rule of a duty's timer while the part proxies (R107, R114, R117). -/
def DutyRun.Timed (r : DutyRun) : Prop :=
  r.timer.isSome = true ↔ r.state = .waiting ∨ r.state = .awaiting ∨ r.state = .backoff

/-- A run-time state consistent while the part proxies. -/
structure DutyRun.Sound (stuck : Prop) (p : DutyProfile) (r : DutyRun) : Prop where
  fits : r.Fits stuck p
  timed : r.Timed

/-- What a duty waits for only grows when it becomes a probe that waits for its restart. -/
theorem DutyRun.Fits.mono (h : r.Fits stuck p) (more : stuck → stuck') : r.Fits stuck' p where
  pending := h.pending
  void := h.void
  tries := h.tries
  tries_left := h.tries_left
  rounds := h.rounds.imp_right (Or.imp_right (And.imp_right (Or.imp_right (Or.imp_right (And.imp_left more)))))
  fresh_run := fun fresh => (h.fresh_run fresh).imp_right (And.imp_left more)

theorem DutyRun.Sound.mono (h : r.Sound stuck p) (more : stuck → stuck') : r.Sound stuck' p := ⟨h.fits.mono more, h.timed⟩

/-! ### What a step asks of the run -/

/-- The tries used are within the tries allowed. -/
structure DutyRun.Counted (r : DutyRun) : Prop where
  allowed : 1 ≤ r.triesAllowed ∧ r.triesAllowed ≤ 4
  used : r.triesUsed ≤ r.triesAllowed

/-- The run may make a try: a try is left, and the rounds limit is not reached. -/
structure DutyRun.TryReady (p : DutyProfile) (r : DutyRun) : Prop where
  allowed : 1 ≤ r.triesAllowed ∧ r.triesAllowed ≤ 4
  left : r.triesUsed < r.triesAllowed
  rounds : p.roundsLimit = 0 ∨ r.failedRounds < p.roundsLimit

/-- The run may end, or fail a round: no more failed rounds than the limit. -/
structure DutyRun.EndReady (p : DutyProfile) (r : DutyRun) : Prop where
  counted : r.Counted
  rounds : p.roundsLimit = 0 ∨ r.failedRounds ≤ p.roundsLimit

theorem DutyRun.TryReady.counted (h : r.TryReady p) : r.Counted := ⟨h.allowed, h.left.le⟩

theorem DutyRun.TryReady.endReady (h : r.TryReady p) : r.EndReady p := ⟨h.counted, h.rounds.imp_right Nat.le_of_lt⟩

theorem DutyRun.Fits.counted (h : r.Fits stuck p) : r.Counted := ⟨⟨h.tries.1, h.tries.2.1⟩, h.tries.2.2⟩

theorem DutyRun.Fits.pending_eq_none (h : r.Fits stuck p) (ready : r.state ≠ .deferred) : r.pending = none := by
  rw [← Option.not_isSome_iff_eq_none, h.pending]
  exact ready

/-- Where the runs have not ended and no new run is due, the rounds limit is not reached. -/
theorem DutyRun.Fits.rounds_left (h : r.Fits stuck p) (unfailed : r.state ≠ .failed) (running : r.state ≠ .suspended)
    (undue : r.pending ≠ some .newRun) : p.roundsLimit = 0 ∨ r.failedRounds < p.roundsLimit := by
  rcases h.rounds with none | below | ⟨-, failed | suspended | ⟨-, due⟩⟩
  · exact .inl none
  · exact .inr below
  · exact absurd failed unfailed
  · exact absurd suspended running
  · exact absurd due undue

/-- A run with a try under way, or a try pending, may make a try. -/
theorem DutyRun.Fits.tryReady (h : r.Fits stuck p)
    (trying : r.state = .queued ∨ r.state = .blocked ∨ r.state = .awaiting ∨ r.pending = some .try_) : r.TryReady p where
  allowed := h.counted.allowed
  left := h.tries_left trying
  rounds := by
    by_cases deferred : r.state = .deferred
    · simp only [deferred, reduceCtorEq, false_or] at trying
      exact h.rounds_left (by simp [deferred]) (by simp [deferred]) (by simp [trying])
    · have none := h.pending_eq_none deferred
      exact h.rounds_left (fun e => by simp [e, none] at trying) (fun e => by simp [e, none] at trying) (by simp [none])

theorem DutyRun.Fits.endReady (h : r.Fits stuck p) : r.EndReady p where
  counted := h.counted
  rounds := by
    rcases h.rounds with none | below | ⟨is, -⟩
    · exact .inl none
    · exact .inr below.le
    · exact .inr is.le

/-! ### What a step leaves -/

theorem DutyRun.TryReady.deferred (h : r.TryReady p) : (r.defer .try_).Sound stuck p where
  fits :=
    { pending := by simp [DutyRun.defer, DutyRun.enter]
      void := nofun
      tries := ⟨h.allowed.1, h.allowed.2, h.left.le⟩
      tries_left := fun _ => h.left
      rounds := h.rounds.imp_right .inl
      fresh_run := by simp [DutyRun.defer, DutyRun.enter] }
  timed := by simp [DutyRun.Timed, DutyRun.defer, DutyRun.enter]

/-- A run whose last step is a try: in the queue, or waiting for a place. -/
theorem DutyRun.TryReady.entered (h : r.TryReady p) {st : DutyState} (trying : st = .queued ∨ st = .blocked) :
    (r.enter st).Sound stuck p where
  fits :=
    { pending := by rcases trying with rfl | rfl <;> simp [DutyRun.enter]
      void := nofun
      tries := ⟨h.allowed.1, h.allowed.2, h.left.le⟩
      tries_left := fun _ => h.left
      rounds := h.rounds.imp_right .inl
      fresh_run := by rcases trying with rfl | rfl <;> simp [DutyRun.enter] }
  timed := by rcases trying with rfl | rfl <;> simp [DutyRun.Timed, DutyRun.enter]

/-- A run that has ended: FAILED or SUSPENDED. -/
theorem DutyRun.EndReady.ended (h : r.EndReady p) {st : DutyState} (finished : st = .failed ∨ st = .suspended) :
    (r.enter st).Sound stuck p where
  fits :=
    { pending := by rcases finished with rfl | rfl <;> simp [DutyRun.enter]
      void := nofun
      tries := ⟨h.counted.allowed.1, h.counted.allowed.2, h.counted.used⟩
      tries_left := by rcases finished with rfl | rfl <;> simp [DutyRun.enter]
      rounds := h.rounds.imp_right fun le => (Nat.lt_or_eq_of_le le).imp_right fun is => ⟨is, by
        rcases finished with rfl | rfl <;> simp [DutyRun.enter]⟩
      fresh_run := by rcases finished with rfl | rfl <;> simp [DutyRun.enter] }
  timed := by rcases finished with rfl | rfl <;> simp [DutyRun.Timed, DutyRun.enter]

theorem DutyRun.Sound.setOutcome (h : r.Sound stuck p) (o : LastOutcome) : ({ r with lastOutcome := o } : DutyRun).Sound stuck p :=
  ⟨⟨h.fits.pending, h.fits.void, h.fits.tries, h.fits.tries_left, h.fits.rounds, h.fits.fresh_run⟩, h.timed⟩

theorem DutyRun.EndReady.lostAddress (h : r.EndReady p) : r.loseAddress.Sound stuck p := (h.ended (.inr rfl)).setOutcome _

/-- A run whose failed rounds are none is scheduled again, or done (R119). -/
theorem DutyRun.Counted.rescheduled_sound (h : r.Counted) (none : r.failedRounds = 0) : (rescheduled p r).Sound stuck p := by
  have rounds : p.roundsLimit = 0 ∨ r.failedRounds < p.roundsLimit := by omega
  unfold rescheduled
  split
  · exact ⟨⟨by simp, nofun, ⟨h.allowed.1, h.allowed.2, h.used⟩, by simp, rounds.imp_right .inl, fun _ => .inl none⟩,
      by simp [DutyRun.Timed]⟩
  · exact ⟨⟨by simp, nofun, ⟨h.allowed.1, h.allowed.2, h.used⟩, by simp, rounds.imp_right .inl, fun _ => .inl none⟩,
      by simp [DutyRun.Timed]⟩

/-- A run pending without a failed round, or of a probe that waits for its restart. -/
theorem DutyRun.EndReady.pendingRun (h : r.EndReady p) (due : r.failedRounds = 0 ∨ stuck) : (r.defer .newRun).Sound stuck p where
  fits :=
    { pending := by simp [DutyRun.defer, DutyRun.enter]
      void := nofun
      tries := ⟨h.counted.allowed.1, h.counted.allowed.2, h.counted.used⟩
      tries_left := by simp [DutyRun.defer, DutyRun.enter]
      rounds := by
        rcases h.rounds with none | le
        · exact .inl none
        · rcases Nat.lt_or_eq_of_le le with below | is
          · exact .inr (.inl below)
          · rcases due with zero | waits
            · exact .inl (is.symm.trans zero)
            · exact .inr (.inr ⟨is, .inr (.inr ⟨waits, rfl⟩)⟩)
      fresh_run := fun _ => due.imp_right fun waits => ⟨waits, rfl⟩ }
  timed := by simp [DutyRun.Timed, DutyRun.defer, DutyRun.enter]

theorem DutyRun.TryReady.awaiting (h : r.TryReady p) (n : Nat) :
    ({ r.enter .awaiting with timer := some n } : DutyRun).Sound stuck p where
  fits :=
    { pending := by simp [DutyRun.enter]
      void := nofun
      tries := ⟨h.allowed.1, h.allowed.2, h.left.le⟩
      tries_left := fun _ => h.left
      rounds := h.rounds.imp_right .inl
      fresh_run := by simp [DutyRun.enter] }
  timed := by simp [DutyRun.Timed, DutyRun.enter]

/-- A round below the limit ends in BACKOFF (R116). -/
theorem failedRound_sound (h : r.Counted) (free : ¬Limited p r) : (failedRound p r).Sound stuck p := by
  rw [failedRound_of_not_limited free]
  refine ⟨⟨by simp [DutyRun.enter], nofun, ⟨h.allowed.1, h.allowed.2, h.used⟩, by simp [DutyRun.enter],
    (not_limited_iff.1 free).imp_right .inl, by simp [DutyRun.enter]⟩, by simp [DutyRun.Timed, DutyRun.enter]⟩

/-- A failure action ends the run, or reschedules it without a failed round (R124 to R126). -/
theorem failedRun_sound (h : r.EndReady p) : (failedRun p r).Sound stuck p := by
  unfold failedRun
  split
  · exact h.ended (.inl rfl)
  · exact h.ended (.inr rfl)
  · exact DutyRun.Counted.rescheduled_sound (r := { r with
      runsCompleted := min (r.runsCompleted + 1) 4294967295, failedRounds := 0 }) ⟨h.counted.allowed, h.counted.used⟩ rfl

theorem failedRound_endReady (h : r.Counted) (rounds : p.roundsLimit = 0 ∨ r.failedRounds < p.roundsLimit) (limited : Limited p r) :
    (failedRound p r).EndReady p := by
  rw [failedRound_of_limited limited]
  refine ⟨⟨h.allowed, h.used⟩, ?_⟩
  rcases rounds with none | below
  · exact .inl none
  · right
    change satInc8 r.failedRounds ≤ p.roundsLimit
    unfold satInc8
    omega

/-- A run that succeeded is scheduled again, or done, whatever was captured (R118 to R122). -/
theorem captured_counted (f : Frame) (h : r.Counted) : (captured p f (succeeded r)).Counted ∧ (captured p f (succeeded r)).failedRounds = 0 := by
  unfold captured
  split
  · exact ⟨⟨h.allowed, h.used⟩, rfl⟩
  · split
    · exact ⟨⟨h.allowed, h.used⟩, rfl⟩
    · dsimp only
      split <;> exact ⟨⟨h.allowed, h.used⟩, rfl⟩

/-- Entry into FOREIGN keeps a run consistent (R130, R145). -/
theorem DutyRun.Sound.loseLeave (h : r.Sound stuck p) : r.loseLeave.Sound stuck p := by
  unfold DutyRun.loseLeave
  split
  · next queued =>
    exact ⟨⟨h.fits.pending, fun _ => queued, h.fits.tries, h.fits.tries_left, h.fits.rounds, h.fits.fresh_run⟩, h.timed⟩
  · next awaiting => exact (h.fits.tryReady (.inr (.inr (.inl awaiting)))).deferred
  · exact h

/-- A link down keeps a run consistent (R129). -/
theorem DutyRun.Sound.linkDown (h : r.Sound stuck p) (inFlight : Bool) : (r.linkDown inFlight).Sound stuck p := by
  unfold DutyRun.linkDown
  split
  · next queued =>
    split
    · exact ⟨⟨h.fits.pending, fun _ => queued, h.fits.tries, h.fits.tries_left, h.fits.rounds, h.fits.fresh_run⟩, h.timed⟩
    · exact (h.fits.tryReady (.inl queued)).deferred
  · next awaiting => exact (h.fits.tryReady (.inr (.inr (.inl awaiting)))).deferred
  · exact h

end Sys2Proof.Machine
end

section
/-! SUPPORT. The duties and the Transmit Queue together: the state between two steps of an event's work, the state while one duty is
being moved, and what each step of the scheduler makes of it. -/

namespace Sys2Proof.Machine

variable {s t : State} {d e : Fin 12} {u : Duty} {r : DutyRun} {full full' : Prop}

/-! ### The parts -/

/-- The Transmit Queue's limits and order, but that it has been served (R85, R86, R93, R98, R109). -/
structure QueueFits (s : State) : Prop where
  room : s.queue.length ≤ 8
  ordinary : ordinaryCount s.queue ≤ 6
  one_in_flight : (s.queue.countP fun e => e.inFlight) ≤ 1
  lengths : ∀ e ∈ s.queue, 60 ≤ e.frame.length ∧ e.frame.length ≤ 1518
  one_each : ∀ d : Fin 12, (s.queue.countP fun e => e.origin == .duty d) ≤ 1
  cls : ∀ e ∈ s.queue, (e.cls = .duty ↔ ∃ d, e.origin = .duty d)
  link_down : s.net = .linkDown → ∀ e ∈ s.queue, e.inFlight = true

/-- A duty's frame is in the Transmit Queue. -/
def Placed (s : State) (d : Fin 12) : Prop := ∃ e ∈ s.queue, e.origin = .duty d

/-- A probe that waits for the restart of the next CHECKING (R108, R139). -/
def Stuck (s : State) (d : Fin 12) : Prop :=
  (s.duties[d]).probe = true ∧ s.signature.isSome = true ∧ (s.net = .foreign ∨ s.net = .linkDown)

/-- One duty while the part proxies; with `full`, it waits for a place in a full queue alone (R90). -/
structure DutyHolds (full : Prop) (s : State) (d : Fin 12) : Prop where
  sound : ∀ u ∈ (s.duties[d]).duty, u.run.Sound (Stuck s d) u.profile
  placed : Placed s d ↔ ∃ u ∈ (s.duties[d]).duty, u.run.state = .queued
  blocked : full → ∀ u ∈ (s.duties[d]).duty, u.run.state = .blocked → s.queue.length = 8

/-- The duties and the queue between two steps. -/
structure Settled (full : Prop) (s : State) : Prop where
  queue : QueueFits s
  duties : ∀ d, DutyHolds full s d

/-- The duties and the queue while duty `d` is being moved: no frame of it is in the queue. -/
structure Moving (full : Prop) (s : State) (d : Fin 12) : Prop where
  queue : QueueFits s
  absent : ¬Placed s d
  others : ∀ e, d ≠ e → DutyHolds full s e

/-- The profile in its ranges, and the probe flag on the signature's duty alone: what the work within an event leaves (R83). -/
structure Profiled (s : State) : Prop where
  profile : ProfileInv s
  flags : ∀ d : Fin 12, ((s.duties[d]).probe = true ↔ ∃ g ∈ s.signature, g.probeDuty = d)

theorem Profiled.kept (h : Profiled s) (k : ProfileKept s t) : Profiled t := ⟨k.profileInv h.profile, k.flags h.flags⟩

theorem Profiled.works (h : Profiled s) (works : Works s t) : Profiled t := h.kept works.profileKept

theorem Profiled.only (h : Profiled s) (flag : (s.duties[d]).probe = true) : ∀ e : Fin 12, (s.duties[e]).probe = true → e = d := by
  intro e set
  obtain ⟨g, hg, rfl⟩ := (h.flags d).1 flag
  obtain ⟨k, hk, rfl⟩ := (h.flags e).1 set
  rw [Option.mem_unique hg hk]

theorem Profiled.duty (h : Profiled s) (hu : (s.duties[d]).duty = some u) : u.profile.InRange := h.profile.1.duties d u hu

theorem Profiled.template (h : Profiled s) (id : Fin 48) : ((template? s id).getD []).length ≤ 1514 := by
  cases found : template? s id with
  | none => exact Nat.zero_le _
  | some bytes =>
    obtain ⟨t, ht, rfl⟩ := Option.map_eq_some_iff.1 found
    exact (h.profile.2.lengths t (List.mem_of_find?_eq_some ht)).2

/-- A duty's frame is of a length the Frame Port takes (R80, R81, R98). -/
theorem Profiled.frame (h : Profiled s) (u : Duty) : 60 ≤ (buildDuty s u).length ∧ (buildDuty s u).length ≤ 1518 := by
  have small := h.template u.profile.template
  rw [buildDuty, buildFrame_length]
  split <;> omega

/-! ### States that agree on the duties, the queue and the network -/

/-- `t` has the duties, the queue, the network state and the signature of `s`. -/
structure SameWork (s t : State) : Prop where
  queue : t.queue = s.queue
  duties : t.duties = s.duties
  net : t.net = s.net
  signature : t.signature = s.signature

theorem QueueFits.same (h : QueueFits s) (queue : t.queue = s.queue) (net : t.net = .linkDown → s.net = .linkDown) : QueueFits t where
  room := by rw [queue]; exact h.room
  ordinary := by rw [queue]; exact h.ordinary
  one_in_flight := by rw [queue]; exact h.one_in_flight
  lengths := by rw [queue]; exact h.lengths
  one_each := by rw [queue]; exact h.one_each
  cls := by rw [queue]; exact h.cls
  link_down := fun down => by rw [queue]; exact h.link_down (net down)

theorem DutyHolds.same (h : DutyHolds full s d) (queue : t.queue = s.queue) (duty : t.duties[d] = s.duties[d]) (stuck : Stuck s d → Stuck t d) :
    DutyHolds full t d where
  sound := fun u hu => (h.sound u (by rwa [← duty])).mono stuck
  placed := by rw [Placed, queue, duty]; exact h.placed
  blocked := fun isFull u hu => by
    rw [queue]
    rw [duty] at hu
    exact h.blocked isFull u hu

theorem SameWork.stuck (same : SameWork s t) : Stuck t d ↔ Stuck s d := by
  rw [Stuck, Stuck, same.duties, same.signature, same.net]

theorem Settled.same (h : Settled full s) (same : SameWork s t) : Settled full t where
  queue := h.queue.same same.queue fun down => by rwa [same.net] at down
  duties := fun d => (h.duties d).same same.queue (by rw [same.duties]) same.stuck.2

theorem Moving.same (h : Moving full s d) (same : SameWork s t) : Moving full t d where
  queue := h.queue.same same.queue fun down => by rwa [same.net] at down
  absent := by rw [Placed, same.queue]; exact h.absent
  others := fun e ne => (h.others e ne).same same.queue (by rw [same.duties]) same.stuck.2

theorem addWeight_sameWork (j : Fin 8) (w : Nat) (s : State) : SameWork s (addWeight j w s) :=
  ⟨by simp, by simp, by simp, by simp⟩

theorem DutyHolds.weaken (h : DutyHolds full s d) (less : full' → full) : DutyHolds full' s d :=
  ⟨h.sound, h.placed, fun isFull => h.blocked (less isFull)⟩

theorem Settled.weaken (h : Settled full s) (less : full' → full) : Settled full' s := ⟨h.queue, fun d => (h.duties d).weaken less⟩

/-! ### One duty moved -/

theorem stuck_withRun : Stuck (withRun d r s) e ↔ Stuck s e := by
  rw [Stuck, withRun_probe]
  rfl

/-- A duty with no frame in the queue may be moved. -/
theorem Settled.moving (h : Settled full s) (unqueued : ∀ u ∈ (s.duties[d]).duty, u.run.state ≠ .queued) : Moving full s d where
  queue := h.queue
  absent := fun placed => by
    obtain ⟨u, hu, queued⟩ := (h.duties d).placed.1 placed
    exact unqueued u hu queued
  others := fun e _ => h.duties e

theorem Moving.of_unused (h : Moving full s d) (hd : (s.duties[d]).duty = none) : Settled full s where
  queue := h.queue
  duties := fun e => by
    by_cases same : d = e
    · subst same
      have none : ∀ u, u ∉ (s.duties[d]).duty := fun u hu => by
        rw [hd] at hu
        cases hu
      exact ⟨fun u hu => absurd hu (none u), iff_of_false h.absent fun ⟨u, hu, _⟩ => none u hu, fun _ u hu => absurd hu (none u)⟩
    · exact h.others e same

theorem Moving.withRun (h : Moving full s d) (r : DutyRun) : Moving full (withRun d r s) d where
  queue := h.queue.same rfl id
  absent := h.absent
  others := fun e ne => (h.others e ne).same rfl (withRun_duties_ne ne r) stuck_withRun.2

/-- The duty moved to a consistent run-time state outside the queue. -/
theorem Moving.settle (h : Moving full s d) (hu : (s.duties[d]).duty = some u) (sound : r.Sound (Stuck s d) u.profile)
    (unqueued : r.state ≠ .queued) (blocked : r.state = .blocked → s.queue.length = 8) : Settled full (Machine.withRun d r s) where
  queue := h.queue.same rfl id
  duties := fun e => by
    by_cases same : d = e
    · subst same
      have duty := withRun_duty hu r
      refine ⟨fun x hx => ?_, iff_of_false h.absent ?_, fun _ x hx is => ?_⟩
      · rw [duty, Option.mem_def, Option.some.injEq] at hx
        subst hx
        exact sound.mono stuck_withRun.2
      · rintro ⟨x, hx, queued⟩
        rw [duty, Option.mem_def, Option.some.injEq] at hx
        subst hx
        exact unqueued queued
      · rw [duty, Option.mem_def, Option.some.injEq] at hx
        subst hx
        exact blocked is
    · exact (h.withRun r).others e same

/-! ### A frame joins the queue (R85) -/

theorem placed_enqueue {o : Origin} {c : TxClass} {f : Frame} : Placed (enqueue o c f s) e ↔ Placed s e ∨ o = .duty e := by
  simp [Placed, enqueue, or_and_right, exists_or]

/-- What a frame must be to join the queue. -/
structure Joining (s : State) (o : Origin) (c : TxClass) (f : Frame) : Prop where
  up : s.net ≠ .linkDown
  room : s.queue.length < 8
  ordinary : c = .ordinary → ordinaryCount s.queue < 6
  length : 60 ≤ f.length ∧ f.length ≤ 1518
  cls : c = .duty ↔ ∃ d, o = .duty d
  absent : ∀ d, o = .duty d → ¬Placed s d

theorem QueueFits.enqueue {o : Origin} {c : TxClass} {f : Frame} (h : QueueFits s) (join : Joining s o c f) :
    QueueFits (enqueue o c f s) where
  room := by
    have room := join.room
    simp only [Machine.enqueue, List.length_append, List.length_singleton]
    omega
  ordinary := by
    have before := h.ordinary
    have joined := join.ordinary
    simp only [Machine.enqueue, ordinaryCount, List.countP_append, List.countP_singleton, beq_iff_eq] at *
    split
    · next is => exact joined is
    · exact before
  one_in_flight := by
    simp only [Machine.enqueue, List.countP_append, List.countP_singleton]
    exact h.one_in_flight
  lengths := by
    simp only [Machine.enqueue, List.mem_append, List.mem_singleton]
    rintro e (old | rfl)
    · exact h.lengths e old
    · exact join.length
  one_each := fun d => by
    simp only [Machine.enqueue, List.countP_append, List.countP_singleton, beq_iff_eq]
    split
    · next is =>
      have none : (s.queue.countP fun e => e.origin == .duty d) = 0 :=
        List.countP_eq_zero.2 fun e he => by
          rw [beq_iff_eq]
          exact fun origin => join.absent d is ⟨e, he, origin⟩
      omega
    · exact h.one_each d
  cls := by
    simp only [Machine.enqueue, List.mem_append, List.mem_singleton]
    rintro e (old | rfl)
    · exact h.cls e old
    · exact join.cls
  link_down := fun down => absurd down join.up

/-- The queue had a place, so no duty that waits for one sees it fill. -/
theorem DutyHolds.enqueue {o : Origin} {c : TxClass} {f : Frame} (h : DutyHolds full s e) (join : Joining s o c f) (other : o ≠ .duty e) :
    DutyHolds full (enqueue o c f s) e where
  sound := h.sound
  placed := by
    rw [placed_enqueue]
    exact (or_iff_left other).trans h.placed
  blocked := fun isFull u hu is => absurd (h.blocked isFull u hu is) join.room.ne

theorem Settled.enqueueAnswer {i : Fin 32} {c : TxClass} {f : Frame} (h : Settled full s) (join : Joining s (.rule i) c f) :
    Settled full (enqueue (.rule i) c f s) := ⟨h.queue.enqueue join, fun d => (h.duties d).enqueue join nofun⟩

/-- The duty's own frame joins the queue and the duty is QUEUED (R109). -/
theorem Moving.enqueueOwn {f : Frame} (h : Moving full s d) (hu : (s.duties[d]).duty = some u)
    (sound : r.Sound (Stuck s d) u.profile) (queued : r.state = .queued) (up : s.net ≠ .linkDown) (room : s.queue.length < 8)
    (length : 60 ≤ f.length ∧ f.length ≤ 1518) : Settled full (Machine.withRun d r (enqueue (.duty d) .duty f s)) := by
  have join : Joining s (.duty d) .duty f := ⟨up, room, nofun, length, iff_of_true rfl ⟨d, rfl⟩, by
    rintro e is
    cases is
    exact h.absent⟩
  refine ⟨(h.queue.enqueue join).same rfl id, fun e => ?_⟩
  by_cases same : d = e
  · subst same
    have duty : ((Machine.withRun d r (enqueue (.duty d) .duty f s)).duties[d]).duty = some { u with run := r } := withRun_duty hu r
    refine ⟨fun x hx => ?_, iff_of_true (placed_enqueue.2 (.inr rfl)) ⟨_, duty, queued⟩, fun _ x hx is => ?_⟩
    · rw [duty, Option.mem_def, Option.some.injEq] at hx
      subst hx
      exact sound.mono (stuck_withRun (s := enqueue (.duty d) .duty f s)).2
    · rw [duty, Option.mem_def, Option.some.injEq] at hx
      subst hx
      rw [queued] at is
      cases is
  · have other : DutyHolds full (enqueue (.duty d) .duty f s) e := (h.others e same).enqueue join (by simpa using same)
    exact other.same rfl (withRun_duties_ne (s := enqueue (.duty d) .duty f s) same r) (stuck_withRun (s := enqueue (.duty d) .duty f s)).2

end Sys2Proof.Machine
end

section
/-! SUPPORT. Every step of the Duty Scheduler and of the Network Check from a consistent state to a consistent state. -/

namespace Sys2Proof.Machine

variable {s t : State} {d e : Fin 12} {u : Duty} {r : DutyRun} {full : Prop}

/-! ### Tries and runs -/

theorem withRun_works (d : Fin 12) (r : DutyRun) (s : State) : Works s (withRun d r s) := (Touch.run d (fun _ => r) s).works

theorem QueueFits.length_eq (h : QueueFits s) (shut : ¬s.queue.length < 8) : s.queue.length = 8 := le_antisymm h.room (Nat.le_of_not_lt shut)

theorem leave_up (leave : Leave s d) : s.net ≠ .linkDown := fun down => not_leave_of_down down leave

theorem makeTry_settled (h : Moving full s d) (prof : Profiled s) (ready : ∀ u ∈ (s.duties[d]).duty, u.run.TryReady u.profile) :
    Settled full (makeTry d s) := by
  cases hu : (s.duties[d]).duty with
  | none =>
    rw [makeTry_of_unused hu]
    exact h.of_unused hu
  | some u =>
    have ready := ready u hu
    by_cases leave : Leave s d
    · by_cases lost : NamesLost s u.profile.patchList
      · rw [makeTry_of_lost hu leave lost]
        exact h.settle hu ready.endReady.lostAddress nofun nofun
      · by_cases room : s.queue.length < 8
        · rw [makeTry_of_room hu leave lost room]
          exact h.enqueueOwn hu (ready.entered (.inl rfl)) rfl (leave_up leave) room (prof.frame u)
        · rw [makeTry_of_full hu leave lost (Nat.le_of_not_lt room)]
          exact h.settle hu (ready.entered (.inr rfl)) nofun fun _ => h.queue.length_eq room
    · rw [makeTry_of_no_leave hu leave]
      exact h.settle hu ready.deferred nofun nofun

theorem makeTry_withRun_settled (h : Moving full s d) (prof : Profiled s) (hu : (s.duties[d]).duty = some u)
    (ready : r.TryReady u.profile) : Settled full (makeTry d (withRun d r s)) := by
  refine makeTry_settled (h.withRun r) (prof.works (withRun_works d r s)) fun x hx => ?_
  rw [withRun_duty hu r, Option.mem_def, Option.some.injEq] at hx
  subst hx
  exact ready

theorem beginRun_settled (h : Moving full s d) (prof : Profiled s)
    (ready : ∀ u ∈ (s.duties[d]).duty, u.run.EndReady u.profile ∧ u.run.failedRounds = 0) : Settled full (beginRun d s) := by
  cases hu : (s.duties[d]).duty with
  | none =>
    rw [beginRun_of_unused hu]
    exact h.of_unused hu
  | some u =>
    obtain ⟨ready, none⟩ := ready u hu
    by_cases leave : Leave s d
    · by_cases lost : NamesLost s u.profile.patchList
      · rw [beginRun_of_lost hu leave lost]
        exact h.settle hu ready.lostAddress nofun nofun
      · rw [beginRun_of_leave hu leave lost]
        have range := prof.duty hu
        have allowed : 1 ≤ u.begun.triesAllowed ∧ u.begun.triesAllowed ≤ 4 := by
          unfold Duty.begun DutyRun.begin
          dsimp only
          split
          · exact range.startupTries
          · exact range.runTries
        have zero : u.begun.failedRounds = 0 := none
        exact makeTry_withRun_settled h prof hu ⟨allowed, allowed.1, by omega⟩
    · rw [beginRun_of_no_leave hu leave]
      exact h.settle hu (ready.pendingRun (.inl none)) nofun nofun

theorem not_stuck_of_leave (leave : Leave s d) : ¬Stuck s d := by
  rintro ⟨-, -, net⟩
  rcases leave with is | ⟨is, -⟩ <;> rcases net with e | e <;> rw [e] at is <;> cases is

theorem resumeDuty_settled (h : Settled full s) (prof : Profiled s) : Settled full (resumeDuty s d) := by
  by_cases resumes : ∃ u ∈ (s.duties[d]).duty, u.run.state = .deferred ∧ Leave s d
  · obtain ⟨u, hu, deferred, leave⟩ := resumes
    have sound := (h.duties d).sound u hu
    have moving : Moving full s d := h.moving fun x hx => by
      rw [← Option.mem_unique hu hx, deferred]
      nofun
    rw [resumeDuty_of_deferred hu deferred leave]
    split
    · next due =>
      refine beginRun_settled moving prof fun x hx => ?_
      rw [← Option.mem_unique hu hx]
      exact ⟨sound.fits.endReady, (sound.fits.fresh_run (.inr due)).resolve_right fun waits => not_stuck_of_leave leave waits.1⟩
    · next due =>
      refine makeTry_settled moving prof fun x hx => ?_
      rw [← Option.mem_unique hu hx]
      exact sound.fits.tryReady (.inr (.inr (.inr due)))
    · exact h
  · rw [resumeDuty_of_still fun x hx deferred leave => resumes ⟨x, hx, deferred, leave⟩]
    exact h

/-- A walk over the duties, each step of which keeps the state consistent. -/
theorem foldl_settled {f : State → Fin 12 → State} (works : ∀ s d, Works s (f s d))
    (step : ∀ s d, Settled full s → Profiled s → Settled full (f s d)) (l : List (Fin 12)) (h : Settled full s) (prof : Profiled s) :
    Settled full (l.foldl f s) := by
  induction l generalizing s with
  | nil => exact h
  | cons d l ih => exact ih (step s d h prof) (prof.works (works s d))

theorem resumeDeferred_settled (h : Settled full s) (prof : Profiled s) : Settled full (resumeDeferred s) :=
  foldl_settled (fun s d => resumeDuty_works s d) (fun _ _ h prof => resumeDuty_settled h prof) _ h prof

/-! ### The blocked-duty arbiter (R90) -/

theorem makeTry_duties_ne (ne : d ≠ e) : (makeTry d s).duties[e] = s.duties[e] := by
  cases hu : (s.duties[d]).duty with
  | none => rw [makeTry_of_unused hu]
  | some u =>
    by_cases leave : Leave s d
    · by_cases lost : NamesLost s u.profile.patchList
      · rw [makeTry_of_lost hu leave lost, withRun_duties_ne ne]
      · by_cases room : s.queue.length < 8
        · rw [makeTry_of_room hu leave lost room, withRun_duties_ne ne]
          rfl
        · rw [makeTry_of_full hu leave lost (Nat.le_of_not_lt room), withRun_duties_ne ne]
    · rw [makeTry_of_no_leave hu leave, withRun_duties_ne ne]

/-- With a place free, a try leaves its duty in a state other than BLOCKED. -/
theorem makeTry_unblocks (room : s.queue.length < 8) (hu : (s.duties[d]).duty = some u) : isBlocked (makeTry d s) d = false := by
  by_cases leave : Leave s d
  · by_cases lost : NamesLost s u.profile.patchList
    · rw [makeTry_of_lost hu leave lost]
      exact isBlocked_withRun_self hu nofun
    · rw [makeTry_of_room hu leave lost room]
      exact isBlocked_withRun_self (s := enqueue (.duty d) .duty (buildDuty s u) s) hu nofun
  · rw [makeTry_of_no_leave hu leave]
    exact isBlocked_withRun_self hu nofun

/-- How many duties are BLOCKED. -/
def blockedCount (s : State) : Nat := (Finset.univ.filter fun d : Fin 12 => isBlocked s d = true).card

theorem blockedCount_makeTry (room : s.queue.length < 8) (blocked : isBlocked s d = true) :
    blockedCount (makeTry d s) < blockedCount s := by
  obtain ⟨u, hu, -⟩ := isBlocked_iff.1 blocked
  refine Finset.card_lt_card (Finset.ssubset_iff_of_subset (fun e he => ?_) |>.2 ⟨d, by simpa using blocked, ?_⟩)
  · rw [Finset.mem_filter] at he ⊢
    refine ⟨he.1, ?_⟩
    by_cases same : d = e
    · subst same
      exact blocked
    · rw [isBlocked, duty?, makeTry_duties_ne same] at he
      exact he.2
  · simp [makeTry_unblocks room hu]

theorem exists_lowest {b : Fin 12 → Bool} (h : ∃ d, b d = true) : ∃ d, b d = true ∧ ∀ k, k < d → b k = false := by
  obtain ⟨d, hd⟩ := Option.isSome_iff_exists.1 (List.find?_isSome.2 ⟨h.choose, List.mem_finRange _, h.choose_spec⟩)
  exact ⟨d, find?_finRange_eq_some.1 hd⟩

/-- The arbiter leaves a full queue or no BLOCKED duty. -/
theorem arbiter_settled (h : Settled False s) (prof : Profiled s) : Settled True (arbiter s) := by
  induction count : blockedCount s using Nat.strong_induction_on generalizing s with
  | _ n ih =>
    by_cases room : s.queue.length < 8
    · by_cases waits : ∃ d, isBlocked s d = true
      · obtain ⟨d, blocked, low⟩ := exists_lowest waits
        obtain ⟨u, hu, state⟩ := isBlocked_iff.1 blocked
        rw [arbiter_of_lowest hu room low blocked]
        refine ih _ (count ▸ blockedCount_makeTry room blocked) (makeTry_settled (h.moving fun x hx => ?_) prof fun x hx => ?_)
          (prof.works (makeTry_works d s)) rfl
        · rw [← Option.mem_unique hu hx, state]
          nofun
        · rw [← Option.mem_unique hu hx]
          exact ((h.duties d).sound u hu).fits.tryReady (.inr (.inl state))
      · have clear : ∀ d, isBlocked s d = false := fun d => by
          rw [← Bool.not_eq_true]
          exact fun blocked => waits ⟨d, blocked⟩
        rw [arbiter, offerPlaces_of_not_blocked _ clear]
        exact ⟨h.queue, fun d => ⟨(h.duties d).sound, (h.duties d).placed, fun _ u hu state =>
          absurd state (isBlocked_eq_false.1 (clear d) u hu)⟩⟩
    · rw [arbiter_of_full (Nat.le_of_not_lt room)]
      exact ⟨h.queue, fun d => ⟨(h.duties d).sound, (h.duties d).placed, fun _ _ _ _ => h.queue.length_eq room⟩⟩

/-- Where only a full queue makes a duty wait, no place is left to offer. -/
theorem offerPlace_of_settled (h : Settled True s) : offerPlace s = s := by
  by_cases room : s.queue.length < 8
  · have clear : ∀ d, isBlocked s d = false := fun d => by
      rw [isBlocked_eq_false]
      exact fun u hu state => room.ne ((h.duties d).blocked trivial u hu state)
    exact offerPlaces_of_not_blocked 1 clear
  · exact offerPlace_of_full (Nat.le_of_not_lt room)

end Sys2Proof.Machine
end

section
/-! SUPPORT. The results of a try, the Network Check and the received frames from a consistent state to a consistent state. -/

namespace Sys2Proof.Machine

variable {s t : State} {d e : Fin 12} {u : Duty} {r : DutyRun} {full : Prop} {f : Frame}

/-! ### The network state moves -/

theorem Profiled.setNet (h : Profiled s) (n : NetState) : Profiled { s with net := n } := h.kept (setNet_profileKept n s)

/-- The network state moves while the link is up: what a duty waits for only grows. -/
theorem DutyHolds.setNet {n : NetState} (h : DutyHolds full s e) (stuck : Stuck s e → Stuck { s with net := n } e) :
    DutyHolds full { s with net := n } e := h.same rfl rfl stuck

theorem QueueFits.setNet {n : NetState} (h : QueueFits s) (up : n ≠ .linkDown) : QueueFits { s with net := n } :=
  h.same rfl fun down => absurd down up

theorem stuck_setForeign (h : Stuck s e) : Stuck { s with net := .foreign } e := ⟨h.1, h.2.1, .inl rfl⟩

/-- A duty whose run-time state is moved to `q`, its place in the queue as the queue has it. -/
theorem DutyHolds.of_runs {q : Duty → DutyRun} (duty : (t.duties[d]).duty = (s.duties[d]).duty.map fun u => { u with run := q u })
    (sound : ∀ u ∈ (s.duties[d]).duty, (q u).Sound (Stuck t d) u.profile)
    (placed : Placed t d ↔ ∃ u ∈ (s.duties[d]).duty, (q u).state = .queued)
    (blocked : full → ∀ u ∈ (s.duties[d]).duty, (q u).state = .blocked → t.queue.length = 8) : DutyHolds full t d := by
  have each : ∀ x, x ∈ (t.duties[d]).duty ↔ ∃ u ∈ (s.duties[d]).duty, { u with run := q u } = x := fun x => by
    rw [duty, Option.mem_def, Option.map_eq_some_iff]
    rfl
  refine ⟨fun x hx => ?_, placed.trans ⟨fun ⟨u, hu, queued⟩ => ⟨_, (each _).2 ⟨u, hu, rfl⟩, queued⟩, fun ⟨x, hx, queued⟩ => ?_⟩,
    fun isFull x hx state => ?_⟩
  · obtain ⟨u, hu, rfl⟩ := (each x).1 hx
    exact sound u hu
  · obtain ⟨u, hu, rfl⟩ := (each x).1 hx
    exact ⟨u, hu, queued⟩
  · obtain ⟨u, hu, rfl⟩ := (each x).1 hx
    exact blocked isFull u hu state

theorem stuck_mapRuns {q : Fin 12 → DutySlot → DutyRun → DutyRun} : Stuck (mapRuns q s) d ↔ Stuck s d := by
  rw [Stuck, Stuck, (mapRuns_profileKept q s).probes d]
  rfl

/-! ### Entry into FOREIGN (R130, R142, R143, R145) -/

theorem loseLeave_queued (r : DutyRun) : r.loseLeave.state = .queued ↔ r.state = .queued := by
  unfold DutyRun.loseLeave
  split <;> simp_all [DutyRun.defer, DutyRun.enter]

theorem loseLeave_blocked (r : DutyRun) (h : r.loseLeave.state = .blocked) : r.state = .blocked := by
  unfold DutyRun.loseLeave at h
  split at h <;> simp_all [DutyRun.defer, DutyRun.enter]

theorem enterForeign_settled {g : Signature} (h : Settled full s) (hg : s.signature = some g) : Settled full (enterForeign s) := by
  have foreign : Settled full { s with net := .foreign } :=
    ⟨h.queue.setNet (n := .foreign) nofun, fun d => (h.duties d).setNet stuck_setForeign⟩
  have weighed := foreign.same (addWeight_sameWork g.lane g.weight { s with net := .foreign })
  rw [enterForeign_eq hg]
  refine ⟨weighed.queue.same rfl id, fun d => ?_⟩
  have before := weighed.duties d
  refine DutyHolds.of_runs (mapRuns_duty _ d _) (fun u hu => DutyRun.Sound.mono ?_ stuck_mapRuns.2) (before.placed.trans (exists_congr fun u => and_congr_right fun _ => ?_))
    fun isFull u hu state => before.blocked isFull u hu ?_
  · split
    · exact (before.sound u hu).loseLeave
    · exact before.sound u hu
  · split
    · exact (loseLeave_queued _).symm
    · exact Iff.rfl
  · split at state
    · exact loseLeave_blocked _ state
    · exact state

/-- The probe of CHECKING ends DEFERRED in FOREIGN, where it waits for its restart. -/
theorem probeForeign_settled {g : Signature} {n : Nat} (h : Moving full s d) (hu : (s.duties[d]).duty = some u)
    (hg : s.signature = some g) (flag : (s.duties[d]).probe = true) (ready : ({ r with failedRounds := n } : DutyRun).EndReady u.profile)
    (o : LastOutcome) :
    Settled full (addWeight g.lane g.weight (withRun d { r.defer .newRun with failedRounds := n, lastOutcome := o }
      { s with net := .foreign })) := by
  have foreign : Moving full { s with net := .foreign } d :=
    ⟨h.queue.setNet (n := .foreign) nofun, h.absent, fun e ne => (h.others e ne).setNet stuck_setForeign⟩
  have waits : Stuck { s with net := .foreign } d := ⟨flag, by simp [hg], .inl rfl⟩
  have sound := (ready.pendingRun (stuck := Stuck { s with net := .foreign } d) (.inr waits)).setOutcome o
  exact (foreign.settle hu sound nofun nofun).same (addWeight_sameWork _ _ _)

theorem Probing.signed (prof : Profiled s) (probes : Probing s d) : ∃ g, s.signature = some g := by
  obtain ⟨g, hg, -⟩ := (prof.flags d).1 probes.2
  exact ⟨g, hg⟩

/-! ### Failed tries and rounds (R115, R116) -/

theorem failureWeight_sameWork (p : DutyProfile) (s : State) : SameWork s (failureWeight p s) := by
  unfold failureWeight
  split
  · exact addWeight_sameWork _ _ _
  · exact ⟨rfl, rfl, rfl, rfl⟩

theorem Moving.settle_weighed (h : Moving full s d) (p : DutyProfile) (hu : (s.duties[d]).duty = some u)
    (sound : r.Sound (Stuck s d) u.profile) (unqueued : r.state ≠ .queued) (unblocked : r.state ≠ .blocked) :
    Settled full (Machine.withRun d r (failureWeight p s)) := by
  have same := failureWeight_sameWork p s
  refine (h.same same).settle (u := u) (by rw [same.duties]; exact hu) (sound.mono same.stuck.2) unqueued fun is => absurd is unblocked

theorem rescheduled_state (p : DutyProfile) (r : DutyRun) : (rescheduled p r).state = .waiting ∨ (rescheduled p r).state = .done := by
  unfold rescheduled
  split
  · exact .inl rfl
  · exact .inr rfl

theorem rescheduled_unplaced (p : DutyProfile) (r : DutyRun) :
    (rescheduled p r).state ≠ .queued ∧ (rescheduled p r).state ≠ .blocked := by
  rcases rescheduled_state p r with is | is <;> rw [is] <;> exact ⟨nofun, nofun⟩

theorem failedRun_unplaced (p : DutyProfile) (r : DutyRun) : (failedRun p r).state ≠ .queued ∧ (failedRun p r).state ≠ .blocked := by
  unfold failedRun
  split
  · exact ⟨nofun, nofun⟩
  · exact ⟨nofun, nofun⟩
  · exact rescheduled_unplaced _ _

theorem failRound_settled (h : Moving full s d) (prof : Profiled s) (hu : (s.duties[d]).duty = some u) (ready : r.Counted)
    (rounds : u.profile.roundsLimit = 0 ∨ r.failedRounds < u.profile.roundsLimit) :
    Settled full (failRound d (withRun d r s)) := by
  by_cases probes : Probing s d
  · obtain ⟨g, hg⟩ := probes.signed prof
    rw [failRound_withRun_of_checking hu hg probes (prof.only probes.2)]
    have one : u.profile.roundsLimit = 0 ∨ 1 ≤ u.profile.roundsLimit := by omega
    exact probeForeign_settled (r := r) (n := 1) h hu hg probes.2 ⟨⟨ready.allowed, ready.used⟩, one⟩ .exhausted
  · by_cases limited : Limited u.profile r
    · rw [failRound_withRun_of_limited hu probes limited]
      obtain ⟨unqueued, unblocked⟩ := failedRun_unplaced u.profile (failedRound u.profile r)
      exact h.settle_weighed u.profile hu (failedRun_sound (failedRound_endReady ready rounds limited)) unqueued unblocked
    · rw [failRound_withRun_of_backoff hu probes limited]
      have backoff : (failedRound u.profile r).state = .backoff := by
        rw [failedRound_of_not_limited limited]
        rfl
      refine h.settle hu (failedRound_sound ready limited) ?_ ?_ <;> rw [backoff] <;> nofun

theorem failTry_settled (h : Moving full s d) (prof : Profiled s) (hu : (s.duties[d]).duty = some u)
    (ready : u.run.TryReady u.profile) : Settled full (failTry d s) := by
  by_cases more : u.run.triesUsed + 1 < u.run.triesAllowed
  · rw [failTry_of_more hu more]
    exact makeTry_withRun_settled h prof hu ⟨ready.allowed, more, ready.rounds⟩
  · rw [failTry_of_last hu (Nat.le_of_not_lt more)]
    exact failRound_settled h prof hu ⟨ready.allowed, ready.left⟩ ready.rounds

/-! ### The transmit result of a duty's frame (R111, R112) -/

theorem dutyResult_settled (result : TxResult) (h : Moving full s d) (prof : Profiled s) (hu : (s.duties[d]).duty = some u)
    (queued : u.run.state = .queued) (sound : u.run.Sound (Stuck s d) u.profile) : Settled full (dutyResult d result s) := by
  have ready := sound.fits.tryReady (.inl queued)
  cases valid : u.run.void with
  | true =>
    rw [dutyResult_of_void hu queued valid]
    exact makeTry_withRun_settled h prof hu ⟨ready.allowed, ready.left, ready.rounds⟩
  | false =>
    cases result with
    | refused =>
      rw [dutyResult_of_refused hu queued valid]
      exact failTry_settled h prof hu ready
    | sent =>
      cases answered : u.profile.reply.isSome with
      | true =>
        rw [dutyResult_of_sent hu queued valid answered]
        exact h.settle hu (ready.awaiting _) nofun nofun
      | false =>
        rw [dutyResult_of_unanswered hu queued valid (Option.isSome_eq_false_iff.1 answered |> Option.isNone_iff_eq_none.1)]
        obtain ⟨unqueued, unblocked⟩ := rescheduled_unplaced u.profile (succeeded u.run)
        exact h.settle hu (DutyRun.Counted.rescheduled_sound (r := succeeded u.run) ⟨ready.allowed, ready.left.le⟩ rfl) unqueued
          fun is => absurd is unblocked

/-! ### Replies and rejects (R118, R123, R141 to R145) -/

theorem Settled.moving_awaiting (h : Settled full s) (hu : (s.duties[d]).duty = some u) (awaiting : u.run.state = .awaiting) :
    Moving full s d := h.moving fun x hx => by
  rw [← Option.mem_unique hu hx, awaiting]
  nofun

theorem probeForeign_of_probing_settled (h : Moving full s d) (prof : Profiled s) (hu : (s.duties[d]).duty = some u)
    (probes : Probing s d) (ready : u.run.EndReady u.profile) : Settled full (probeForeign d s) := by
  obtain ⟨g, hg⟩ := probes.signed prof
  rw [probeForeign_of_checking hu hg probes.1 (prof.only probes.2)]
  exact probeForeign_settled (r := u.run) (n := u.run.failedRounds) h hu hg probes.2 ready u.run.lastOutcome

theorem takeReply_settled (h : Settled full s) (prof : Profiled s) (hu : (s.duties[d]).duty = some u)
    (awaiting : u.run.state = .awaiting) : Settled full (takeReply d f s) := by
  have moving := h.moving_awaiting hu awaiting
  have ready := ((h.duties d).sound u hu).fits.endReady
  have succeeds : (rescheduled u.profile (captured u.profile f (succeeded u.run))).Sound (Stuck s d) u.profile := by
    obtain ⟨counted, none⟩ := captured_counted (p := u.profile) (r := u.run) f ready.counted
    exact counted.rescheduled_sound none
  obtain ⟨unqueued, unblocked⟩ := rescheduled_unplaced u.profile (captured u.profile f (succeeded u.run))
  have done : Settled full (withRun d (rescheduled u.profile (captured u.profile f (succeeded u.run))) s) :=
    moving.settle hu succeeds unqueued fun is => absurd is unblocked
  by_cases probes : Probing s d
  · cases gateway : s.signature.any fun g => g.gateway == linkAddrAt f 6 with
    | true =>
      rw [takeReply_of_gateway hu probes gateway]
      have attached : Settled full { withRun d (rescheduled u.profile (captured u.profile f (succeeded u.run))) s with
          net := .attached } := ⟨done.queue.setNet (n := .attached) nofun, fun e => (done.duties e).setNet fun waits => by
        rcases waits.2.2 with is | is <;> exact nomatch is.symm.trans probes.1⟩
      exact resumeDeferred_settled attached ((prof.works (withRun_works d _ s)).setNet .attached)
    | false =>
      rw [takeReply_of_stranger probes gateway]
      exact probeForeign_of_probing_settled moving prof hu probes ready
  · by_cases stranger : s.net = .attached ∧ (s.duties[d]).probe = true ∧ s.signature ≠ none ∧
        (s.signature.any fun g => g.gateway == linkAddrAt f 6) = false
    · obtain ⟨attached, flag, signed, gateway⟩ := stranger
      obtain ⟨g, hg⟩ := Option.ne_none_iff_exists'.1 signed
      rw [takeReply_of_attached_stranger hu attached flag hg gateway]
      exact enterForeign_settled done hg
    · rw [takeReply_of_plain hu probes]
      · exact done
      · simpa only [not_and_or, not_not, Bool.not_eq_true, Bool.not_eq_false] using stranger

theorem takeReject_settled (h : Settled full s) (prof : Profiled s) (hu : (s.duties[d]).duty = some u)
    (awaiting : u.run.state = .awaiting) : Settled full (takeReject d s) := by
  have moving := h.moving_awaiting hu awaiting
  have ready := ((h.duties d).sound u hu).fits.endReady
  by_cases probes : Probing s d
  · rw [takeReject_of_probing hu probes]
    exact probeForeign_of_probing_settled (moving.withRun _) (prof.works (withRun_works d _ s)) (withRun_duty hu _)
      (probing_withRun.2 probes) ⟨⟨ready.counted.allowed, ready.counted.used⟩, ready.rounds⟩
  · rw [takeReject_of_plain hu probes]
    obtain ⟨unqueued, unblocked⟩ := failedRun_unplaced u.profile { u.run with lastOutcome := .rejected }
    exact moving.settle_weighed u.profile hu
      (failedRun_sound (r := { u.run with lastOutcome := .rejected }) ⟨⟨ready.counted.allowed, ready.counted.used⟩, ready.rounds⟩)
      unqueued unblocked

/-! ### Expiries (R107, R114, R117) -/

theorem DutyRun.Fits.unfailed {stuck : Prop} {p : DutyProfile} (h : r.Fits stuck p) (waiting : r.state = .waiting) :
    r.failedRounds = 0 :=
  (h.fresh_run (.inl waiting)).resolve_right fun ⟨_, due⟩ => by
    rw [h.pending_eq_none (by simp [waiting])] at due
    cases due

theorem expireDutyTimer_settled (d : Fin 12) (h : Settled full s) (prof : Profiled s) : Settled full (expireDutyTimer d s) := by
  unfold expireDutyTimer
  split
  · exact h
  · next u hu =>
    split
    · next expires =>
      simp only [Bool.and_eq_true, beq_iff_eq] at expires
      obtain ⟨⟨-, waiting⟩, -⟩ := expires
      have fits := ((h.duties d).sound u hu).fits
      have moving : Moving full s d := h.moving fun x hx => by
        rw [← Option.mem_unique hu hx, waiting]
        nofun
      rw [updRun_eq_withRun hu]
      refine beginRun_settled (moving.withRun _) (prof.works (withRun_works d _ s)) fun x hx => ?_
      rw [withRun_duty hu, Option.mem_def, Option.some.injEq] at hx
      subst hx
      exact ⟨⟨⟨fits.counted.allowed, fits.counted.used⟩, fits.endReady.rounds⟩, fits.unfailed waiting⟩
    · exact h

theorem expireReplyWindow_settled (d : Fin 12) (h : Settled full s) (prof : Profiled s) : Settled full (expireReplyWindow d s) := by
  unfold expireReplyWindow
  split
  · exact h
  · next u hu =>
    split
    · next expires =>
      simp only [Bool.and_eq_true, beq_iff_eq] at expires
      obtain ⟨⟨-, awaiting⟩, -⟩ := expires
      have ready := ((h.duties d).sound u hu).fits.tryReady (.inr (.inr (.inl awaiting)))
      rw [updRun_eq_withRun hu]
      exact failTry_settled ((h.moving_awaiting hu awaiting).withRun _) (prof.works (withRun_works d _ s)) (withRun_duty hu _)
        ⟨ready.allowed, ready.left, ready.rounds⟩
    · exact h

theorem expireBackoff_settled (d : Fin 12) (h : Settled full s) (prof : Profiled s) : Settled full (expireBackoff d s) := by
  unfold expireBackoff
  split
  · exact h
  · next u hu =>
    split
    · next expires =>
      simp only [Bool.and_eq_true, beq_iff_eq] at expires
      obtain ⟨⟨-, backoff⟩, -⟩ := expires
      have fits := ((h.duties d).sound u hu).fits
      have moving : Moving full s d := h.moving fun x hx => by
        rw [← Option.mem_unique hu hx, backoff]
        nofun
      have ready : ({ u.run with triesUsed := 0, timer := none } : DutyRun).TryReady u.profile :=
        ⟨fits.counted.allowed, fits.counted.allowed.1, fits.rounds_left (by simp [backoff]) (by simp [backoff])
          (by simp [fits.pending_eq_none (by simp [backoff])])⟩
      rw [updRun_eq_withRun hu]
      exact makeTry_withRun_settled moving prof hu ready
    · exact h

/-! ### Received frames (R29, R37 to R43) -/

theorem SameWork.refl (s : State) : SameWork s s := ⟨rfl, rfl, rfl, rfl⟩

theorem SameWork.trans {x : State} (h : SameWork s t) (k : SameWork t x) : SameWork s x :=
  ⟨k.queue.trans h.queue, k.duties.trans h.duties, k.net.trans h.net, k.signature.trans h.signature⟩

theorem Profiled.answer (h : Profiled s) (template : Fin 48) (list : Option (Fin 32)) (request : Frame) (matched : Option NetAddr) :
    60 ≤ (buildAnswer s template list request matched).length ∧ (buildAnswer s template list request matched).length ≤ 1518 := by
  have small := h.template template
  rw [buildAnswer, buildFrame_length]
  split <;> omega

theorem admits_ordinary {q : List TxEntry} : admits q .ordinary = true ↔ q.length < 8 ∧ ordinaryCount q < 6 := by
  rw [admits, Bool.and_eq_true, decide_eq_true_iff]
  exact and_congr_right fun _ => decide_eq_true_iff

theorem admits_essential {q : List TxEntry} : admits q .essential = true ↔ q.length < 8 := by
  rw [admits, Bool.and_eq_true, decide_eq_true_iff]
  exact and_iff_left rfl

theorem answerWith_settled {i : Fin 32} {rule : Rule} {cls : AnswerClass} {m : Option (Fin 16)} (h : Settled full s)
    (prof : Profiled s) (up : s.net ≠ .linkDown) : Settled full (answerWith i rule cls f m s) := by
  unfold answerWith
  split
  · exact h
  · next template _ =>
    have length := prof.answer template rule.patchList f (entryValue s m)
    have other : ∀ d, (Origin.rule i : Origin) ≠ .duty d := nofun
    unfold offerAnswer
    split
    · split
      · next admitted =>
        obtain ⟨room, few⟩ := admits_ordinary.1 admitted
        have spent : Settled full { s with spent := s.spent + 1 } := h.same ⟨rfl, rfl, rfl, rfl⟩
        exact spent.enqueueAnswer ⟨up, room, fun _ => few, length, iff_of_false nofun fun ⟨d, is⟩ => other d is,
          fun d is => absurd is (other d)⟩
      · exact h.same ⟨rfl, rfl, rfl, rfl⟩
    · split
      · next admitted =>
        exact h.enqueueAnswer ⟨up, admits_essential.1 admitted, nofun, length, iff_of_false nofun fun ⟨d, is⟩ => other d is,
          fun d is => absurd is (other d)⟩
      · exact h.same ⟨rfl, rfl, rfl, rfl⟩

theorem actHold_sameWork (i : Fin 32) (f : Frame) (s : State) : SameWork s (actHold i f s) := by
  unfold actHold
  split <;> exact ⟨rfl, rfl, rfl, rfl⟩

theorem ruleClaim_sameWork (i : Fin 16) (a : LinkAddr) (s : State) : SameWork s (ruleClaim i a s).1 := by
  unfold ruleClaim
  split
  · exact .refl s
  · have given : SameWork s (updEntry i AddrEntry.lose (updEntry i (AddrEntry.recordClaim a) s)) := ⟨rfl, rfl, rfl, rfl⟩
    have lost := given.trans (addWeight_sameWork s.station.conflictLane s.station.conflictWeight _)
    split
    · exact .refl s
    · dsimp only
      split
      · exact ⟨rfl, rfl, rfl, rfl⟩
      · exact lost
      · exact lost
      · exact ⟨rfl, rfl, rfl, rfl⟩

theorem act_settled {i : Fin 32} {rule : Rule} {m : Option (Fin 16)} (h : Settled full s) (prof : Profiled s)
    (up : s.net ≠ .linkDown) : Settled full (act i rule f m s) := by
  unfold act
  split
  · unfold actAnswer
    split
    · exact h.same ⟨rfl, rfl, rfl, rfl⟩
    · split
      · exact h.same ⟨rfl, rfl, rfl, rfl⟩
      · exact answerWith_settled h prof up
  · exact h.same (actHold_sameWork i f s)
  · exact h
  · unfold actClaim
    split
    · exact h
    · next e =>
      have same := ruleClaim_sameWork e (linkAddrAt f rule.claimantOffset) s
      dsimp only
      split
      · exact answerWith_settled (h.same same) (prof.works (ruleClaim_works e _ s)) (by rw [same.net]; exact up)
      · exact h.same same
  · exact h

theorem dispatch_settled {i : Fin 32} {m : Option (Fin 16)} (h : Settled full s) (prof : Profiled s) (up : s.net ≠ .linkDown) :
    Settled full (dispatch i f m s) := by
  have counted : Settled full (countMatch i s) := h.same ⟨rfl, rfl, rfl, rfl⟩
  exact (act_settled counted (prof.works (Touch.matched i s).works) up).same (addWeight_sameWork _ _ _)

theorem consumeFrame_settled (h : Settled full s) (prof : Profiled s) (offered : isOffered s d = true) :
    Settled full (consumeFrame d f s) := by
  obtain ⟨-, u, hu, awaiting⟩ := isOffered_iff.1 offered
  unfold consumeFrame
  split
  · exact takeReply_settled h prof hu awaiting
  · exact takeReject_settled h prof hu awaiting

theorem countLoad_sameWork (c : DestClass) (s : State) : SameWork s (countLoad c s) := by
  cases c <;> exact ⟨rfl, rfl, rfl, rfl⟩

theorem classifyActive_settled (c : DestClass) (h : Settled full s) (prof : Profiled s) : Settled full (classifyActive c f s) := by
  have loaded : Settled full (countLoad c s) := h.same (countLoad_sameWork c s)
  have prof' := prof.works (countLoad_works c s)
  unfold classifyActive
  dsimp only
  split
  · next d taken =>
    have offered := (find?_finRange_eq_some.1 taken).1
    rw [Bool.and_eq_true] at offered
    exact consumeFrame_settled loaded prof' offered.1
  · split
    · exact loaded.same ⟨rfl, rfl, rfl, rfl⟩
    · next attached =>
      have up : (countLoad c s).net ≠ .linkDown := fun down => attached (by rw [down]; rfl)
      split
      · exact loaded.same ⟨rfl, rfl, rfl, rfl⟩
      · exact dispatch_settled loaded prof' up

theorem classify_settled (active : s.active = true) (frame : Frame) (h : Settled full s) (prof : Profiled s) :
    Settled full (classify frame s) := by
  have counted : Settled full (countReceived s) := h.same ⟨rfl, rfl, rfl, rfl⟩
  unfold classify
  dsimp only
  split
  · exact h.same ⟨rfl, rfl, rfl, rfl⟩
  · split
    · exact h.same ⟨rfl, rfl, rfl, rfl⟩
    · split
      · exact h.same ⟨rfl, rfl, rfl, rfl⟩
      · rw [if_neg (by simpa using not_handback_of_active active)]
        exact classifyActive_settled _ counted (prof.works (countReceived_works s))

end Sys2Proof.Machine
end

section
/-! SUPPORT. The queue served, a place freed, link changes, Assume and Reclaim from a consistent state to a consistent state; then the
obligations O7 and O8. -/

namespace Sys2Proof.Machine

variable {s t : State} {d e : Fin 12} {u : Duty} {r : DutyRun} {full : Prop} {c : Instr}

/-! ### The queue served (R86) -/

theorem startTransmit_settled (h : Settled full s) : Settled full (startTransmit s) := by
  rcases startTransmit_cases s with e | ⟨e, rest, -, silent, hq, is⟩
  · rw [e]
    exact h
  have none : (s.queue.countP fun e => e.inFlight) = 0 := by
    rw [List.countP_eq_zero]
    exact fun x hx => by simp [(someInFlight_eq_false _).1 silent x hx]
  have up : s.net ≠ .linkDown := fun down => by
    have flies := h.queue.link_down down e (by simp [hq])
    rw [(someInFlight_eq_false _).1 silent e (by simp [hq])] at flies
    cases flies
  obtain ⟨room, ordinary, -, lengths, one_each, cls, -⟩ := h.queue
  rw [hq] at room ordinary lengths one_each cls none
  rw [List.countP_cons] at none
  rw [List.forall_mem_cons] at lengths cls
  have queue : QueueFits (startTransmit s) := by
    rw [is]
    refine ⟨room, ordinary, ?_, List.forall_mem_cons.2 lengths, one_each, List.forall_mem_cons.2 cls, fun down => absurd down up⟩
    rw [List.countP_cons]
    simp only [if_true]
    omega
  have placed : ∀ d, Placed (startTransmit s) d ↔ Placed s d := fun d => by
    rw [is, Placed, Placed, hq]
    simp
  have length : (startTransmit s).queue.length = s.queue.length := by
    rw [is, hq]
    rfl
  have stuck : ∀ d, Stuck (startTransmit s) d ↔ Stuck s d := fun d => by
    rw [is]
    rfl
  refine ⟨queue, fun d => ⟨fun u hu => ?_, ?_, fun isFull u hu state => ?_⟩⟩
  · rw [startTransmit_duties] at hu
    exact ((h.duties d).sound u hu).mono (stuck d).2
  · rw [placed d, startTransmit_duties]
    exact (h.duties d).placed
  · rw [startTransmit_duties] at hu
    rw [length]
    exact (h.duties d).blocked isFull u hu state

/-! ### Entries leave the queue (R91, R93) -/

theorem QueueFits.sublist {q : List TxEntry} (h : QueueFits s) (sub : q.Sublist s.queue)
    (same : t.queue = q) (down : t.net = .linkDown → ∀ e ∈ q, e.inFlight = true) : QueueFits t := by
  subst same
  exact ⟨sub.length_le.trans h.room, sub.countP_le.trans h.ordinary, sub.countP_le.trans h.one_in_flight,
    fun e he => h.lengths e (sub.subset he), fun d => sub.countP_le.trans (h.one_each d), fun e he => h.cls e (sub.subset he), down⟩

section Taken

variable {x : TxEntry} {rest : List TxEntry}

theorem taken_sublist (flight : takeInFlight s.queue = some (x, rest)) : rest.Sublist s.queue := by
  obtain ⟨before, after, is, is', -, -⟩ := takeInFlight_some flight
  rw [is, is']
  exact List.Sublist.append_left (List.sublist_cons_self _ _) before

theorem QueueFits.taken (h : QueueFits s) (flight : takeInFlight s.queue = some (x, rest)) : QueueFits { s with queue := rest } :=
  h.sublist (taken_sublist flight) rfl fun down e he => h.link_down down e ((taken_sublist flight).subset he)

/-- The entry taken was the only frame of its duty. -/
theorem QueueFits.absent (h : QueueFits s) (flight : takeInFlight s.queue = some (x, rest)) (own : x.origin = .duty d) :
    ¬Placed { s with queue := rest } d := by
  rintro ⟨e, he, origin⟩
  obtain ⟨before, after, is, is', -, -⟩ := takeInFlight_some flight
  have one := h.one_each d
  have positive : 0 < rest.countP fun e => e.origin == .duty d := List.countP_pos_iff.2 ⟨e, he, by simp [origin]⟩
  rw [is, List.countP_append, List.countP_cons, if_pos (by simp [own])] at one
  rw [is', List.countP_append] at positive
  omega

theorem placed_taken (flight : takeInFlight s.queue = some (x, rest)) (other : x.origin ≠ .duty d) :
    Placed { s with queue := rest } d ↔ Placed s d := by
  obtain ⟨before, after, is, is', -, -⟩ := takeInFlight_some flight
  simp only [Placed, is, is', List.mem_append, List.mem_cons]
  constructor
  · rintro ⟨e, before | after, origin⟩
    · exact ⟨e, .inl before, origin⟩
    · exact ⟨e, .inr (.inr after), origin⟩
  · rintro ⟨e, before | rfl | after, origin⟩
    · exact ⟨e, .inl before, origin⟩
    · exact absurd origin other
    · exact ⟨e, .inr after, origin⟩

theorem DutyHolds.taken (h : DutyHolds full s d) (flight : takeInFlight s.queue = some (x, rest)) (other : x.origin ≠ .duty d) :
    DutyHolds False { s with queue := rest } d :=
  ⟨h.sound, (placed_taken flight other).trans h.placed, nofun⟩

/-- A transmit result handed to its origin, before the freed place is offered. -/
theorem handResult_settled (result : TxResult) (h : Settled full s) (prof : Profiled s) (active : s.active = true)
    (flight : takeInFlight s.queue = some (x, rest)) : Settled False (handResult x.origin result { s with queue := rest }) := by
  have prof' : Profiled { s with queue := rest } := prof.kept (.of_tables (by constructor <;> rfl) rfl rfl)
  cases origin : x.origin with
  | rule i =>
    have taken : Settled False { s with queue := rest } :=
      ⟨h.queue.taken flight, fun d => (h.duties d).taken flight (by simp [origin])⟩
    exact taken.same (by cases result <;> exact ⟨rfl, rfl, rfl, rfl⟩)
  | duty d =>
    have moving : Moving False { s with queue := rest } d :=
      ⟨h.queue.taken flight, h.queue.absent flight origin, fun e ne => (h.duties e).taken flight (by simpa [origin] using ne)⟩
    obtain ⟨before, after, is, -, -, -⟩ := takeInFlight_some flight
    obtain ⟨u, hu, queued⟩ := (h.duties d).placed.1 ⟨x, by simp [is], origin⟩
    rw [handResult_duty (s := { s with queue := rest }) result active]
    exact dutyResult_settled result moving prof' hu queued ((h.duties d).sound u hu)

end Taken

/-! ### Link changes (R129, R138, R139) -/

theorem linkDown_queued (b : Bool) (r : DutyRun) : (r.linkDown b).state = .queued ↔ r.state = .queued ∧ b = true := by
  unfold DutyRun.linkDown
  cases b <;> split <;> simp_all [DutyRun.defer, DutyRun.enter]

theorem linkDown_settled (h : Settled True s) (prof : Profiled s) : Settled True (linkDown s) := by
  by_cases down : s.net = .linkDown
  · rw [linkDown_of_down down]
    exact h
  rw [linkDown, if_neg (by simpa using down)]
  have stuck : ∀ d, Stuck s d → Stuck (dropQueued { s with net := .linkDown }) d := fun d waits => ⟨waits.1, waits.2.1, .inr rfl⟩
  have queue : QueueFits (dropQueued { s with net := .linkDown }) :=
    h.queue.sublist List.filter_sublist rfl fun _ e he => (List.mem_filter.1 he).2
  have placed : ∀ d, Placed (dropQueued { s with net := .linkDown }) d ↔
      Placed s d ∧ dutyInFlight (dropQueued { s with net := .linkDown }).queue d = true := fun d => by
    rw [dutyInFlight_iff]
    refine ⟨fun ⟨e, he, origin⟩ => ⟨⟨e, (List.mem_filter.1 he).1, origin⟩, e, he, (List.mem_filter.1 he).2, origin⟩,
      fun ⟨_, e, he, _, origin⟩ => ⟨e, he, origin⟩⟩
  have deferred : Settled False (mapRuns
      (fun d _ r => r.linkDown (dutyInFlight (dropQueued { s with net := .linkDown }).queue d))
      (dropQueued { s with net := .linkDown })) := by
    refine ⟨queue.same rfl id, fun d => DutyHolds.of_runs (mapRuns_duty _ d _) (fun u hu => ?_) ?_ nofun⟩
    · exact ((((h.duties d).sound u hu).mono (stuck d)).linkDown _).mono stuck_mapRuns.2
    · refine (placed d).trans ((and_congr_left' (h.duties d).placed).trans ?_)
      simp only [linkDown_queued]
      exact ⟨fun ⟨⟨u, hu, queued⟩, flies⟩ => ⟨u, hu, queued, flies⟩, fun ⟨u, hu, queued, flies⟩ => ⟨⟨u, hu, queued⟩, flies⟩⟩
  refine arbiter_settled deferred (prof.kept ?_)
  exact ((setNet_profileKept .linkDown s).trans (dropQueued_profileKept _)).trans (mapRuns_profileKept _ _)

theorem Duty.restarted_ready (u : Duty) (range : u.profile.InRange) : u.restarted.TryReady u.profile where
  allowed := range.startupTries
  left := range.startupTries.1
  rounds := Nat.eq_zero_or_pos _

/-- A QUEUED probe keeps its frame in flight through the restart, marked void (R133). -/
theorem Duty.restarted_void_sound {stuck : Prop} (u : Duty) (range : u.profile.InRange) (queued : u.run.state = .queued) :
    ({ u.restarted with void := true } : DutyRun).Sound stuck u.profile := by
  have ready := u.restarted_ready range
  have state : u.restarted.state = .queued := queued
  refine ⟨⟨?_, fun _ => state, ⟨ready.allowed.1, ready.allowed.2, ready.left.le⟩, fun _ => ready.left, ready.rounds.imp_right .inl,
    fun _ => .inl rfl⟩, ?_⟩
  · simp [Duty.restarted, DutyRun.begin, queued]
  · simp [DutyRun.Timed, Duty.restarted, DutyRun.begin, queued]

theorem linkUp_settled (h : Settled True s) (prof : Profiled s)
    (probes : ∀ g, s.signature = some g → probeDuty? s = some g.probeDuty ∧ ∃ u, (s.duties[g.probeDuty]).duty = some u) :
    Settled True (linkUp s) := by
  by_cases down : s.net = .linkDown
  swap
  · rw [linkUp_of_up down]
    exact h
  cases hg : s.signature with
  | none =>
    rw [linkUp_of_unsigned down hg]
    refine resumeDeferred_settled ⟨h.queue.setNet (n := .attached) nofun, fun e => (h.duties e).setNet fun waits => ?_⟩
      (prof.setNet .attached)
    have signed := waits.2.1
    rw [hg] at signed
    cases signed
  | some g =>
    rw [linkUp_of_signed down hg]
    obtain ⟨probe, u, hu⟩ := probes g hg
    have flag : (s.duties[g.probeDuty]).probe = true := (prof.flags _).2 ⟨g, hg, rfl⟩
    have range := prof.duty hu
    have queue : QueueFits { s with net := .checking } := h.queue.setNet (n := .checking) nofun
    have others : ∀ e, g.probeDuty ≠ e → DutyHolds True { s with net := .checking } e := fun e ne =>
      (h.duties e).setNet fun waits => absurd (prof.only flag e waits.1).symm ne
    rw [restartProbe_of_probe (s := { s with net := .checking }) probe hu]
    split
    · next flies =>
      obtain ⟨queued, e, he, -, origin⟩ := flies
      have duty : ((withRun g.probeDuty { u.restarted with void := true } { s with net := .checking }).duties[g.probeDuty]).duty =
          some { u with run := { u.restarted with void := true } } := withRun_duty (s := { s with net := .checking }) hu _
      refine ⟨queue.same rfl id, fun k => ?_⟩
      by_cases same : g.probeDuty = k
      · subst same
        refine ⟨fun x hx => ?_, iff_of_true ⟨e, he, origin⟩ ⟨_, duty, queued⟩, fun _ x hx state => ?_⟩
        · rw [← Option.mem_unique duty hx]
          exact u.restarted_void_sound range queued
        · rw [← Option.mem_unique duty hx] at state
          exact nomatch queued.symm.trans state
      · exact (others k same).same rfl (withRun_duties_ne (s := { s with net := .checking }) same _)
          (stuck_withRun (s := { s with net := .checking })).2
    · next grounded =>
      have absent : ¬Placed { s with net := .checking } g.probeDuty := by
        rintro ⟨e, he, origin⟩
        obtain ⟨x, hx, queued⟩ := (h.duties _).placed.1 ⟨e, he, origin⟩
        rw [← Option.mem_unique hu hx] at queued
        exact grounded ⟨queued, e, he, h.queue.link_down down e he, origin⟩
      exact makeTry_withRun_settled ⟨queue, absent, others⟩ (prof.setNet .checking) hu (u.restarted_ready range)

/-! ### A state between commands -/

/-- A run-time state as IDLE has it, with the counts of its tries in order (R15, R105). -/
structure DutyRun.AtRest (r : DutyRun) : Prop where
  counted : r.Counted
  waiting : r.state = .waiting ∧ r.pending = none ∧ r.void = false
  values : r.timer = none ∧ r.failedRounds = 0 ∧ r.triesUsed = 0 ∧ r.runsCompleted = 0 ∧ r.lastOutcome = .none ∧ r.firstRun = true

theorem DutyRun.AtRest.fits {stuck : Prop} {p : DutyProfile} (h : r.AtRest) : r.Fits stuck p := by
  obtain ⟨⟨⟨low, high⟩, used⟩, ⟨waiting, pending, void⟩, ⟨-, none, -⟩⟩ := h
  exact ⟨by simp [waiting, pending], by simp [void], ⟨low, high, used⟩, by simp [waiting, pending], by omega, fun _ => .inl none⟩

/-- What `QueueInv`, `DutyQueueInv`, `BlockedInv` and `DutyInv` say of a state between commands. -/
structure Orderly (s : State) : Prop where
  queue : QueueFits s
  served : Served s
  fits : ∀ d : Fin 12, ∀ u ∈ (s.duties[d]).duty, u.run.Fits (Stuck s d) u.profile
  work : s.active = true → ∀ d, DutyHolds True s d
  rest : s.proxy = .idle → ∀ d : Fin 12, ∀ u ∈ (s.duties[d]).duty, u.run.AtRest

theorem Orderly.dutyInv (h : Orderly s) : DutyInv s where
  pending := fun d u hu => (h.fits d u hu).pending
  void := fun d u hu => (h.fits d u hu).void
  tries := fun d u hu => (h.fits d u hu).tries
  tries_left := fun d u hu => (h.fits d u hu).tries_left
  rounds := fun d u hu => by
    refine (h.fits d u hu).rounds.imp_right (Or.imp_right (And.imp_right (Or.imp_right (Or.imp_right ?_))))
    exact fun ⟨⟨probe, signed, net⟩, due⟩ => ⟨probe, due, signed, net⟩
  fresh_run := fun d u hu due =>
    ((h.fits d u hu).fresh_run due).imp_right fun ⟨⟨probe, signed, net⟩, due⟩ => ⟨probe, due, signed, net⟩
  at_rest := fun idle d u hu => by
    obtain ⟨-, ⟨waiting, -⟩, timer, rounds, tries, runs, outcome, first⟩ := h.rest idle d u hu
    exact ⟨waiting, timer, rounds, tries, runs, outcome, first⟩
  timer := fun active d u hu => ((h.work active d).sound u hu).timed

theorem Orderly.queueInv (h : Orderly s) : QueueInv s :=
  ⟨h.queue.room, h.queue.ordinary, h.queue.one_in_flight, h.queue.lengths, h.served⟩

theorem Orderly.dutyQueueInv (h : Orderly s) : DutyQueueInv s :=
  ⟨h.queue.one_each, h.queue.cls, fun active d => (h.work active d).placed, fun _ => h.queue.link_down⟩

theorem Orderly.blockedInv (h : Orderly s) : BlockedInv s := fun active d => (h.work active d).blocked trivial

theorem Orderly.settled (h : Orderly s) (active : s.active = true) : Settled True s := ⟨h.queue, h.work active⟩

theorem DutyInv.fits (h : DutyInv s) (hu : (s.duties[d]).duty = some u) : u.run.Fits (Stuck s d) u.profile where
  pending := h.pending d u hu
  void := h.void d u hu
  tries := h.tries d u hu
  tries_left := h.tries_left d u hu
  rounds := by
    refine (h.rounds d u hu).imp_right (Or.imp_right (And.imp_right (Or.imp_right (Or.imp_right ?_))))
    exact fun ⟨probe, due, signed, net⟩ => ⟨⟨probe, signed, net⟩, due⟩
  fresh_run := fun due =>
    (h.fresh_run d u hu due).imp_right fun ⟨probe, due, signed, net⟩ => ⟨⟨probe, signed, net⟩, due⟩

theorem DutyRun.Fits.atRest {stuck : Prop} {p : DutyProfile} (h : r.Fits stuck p) (waiting : r.state = .waiting)
    (values : r.timer = none ∧ r.failedRounds = 0 ∧ r.triesUsed = 0 ∧ r.runsCompleted = 0 ∧ r.lastOutcome = .none ∧
      r.firstRun = true) : r.AtRest where
  counted := h.counted
  waiting := ⟨waiting, h.pending_eq_none (by simp [waiting]), by
    rw [← Bool.not_eq_true]
    intro void
    exact nomatch waiting.symm.trans (h.void void)⟩
  values := values

/-- In LINK_DOWN nothing waits behind the frame in flight, in every proxy state (R10, R13, R93). -/
theorem Inv.all_inFlight_of_down (inv : Inv s) (down : s.net = .linkDown) : ∀ e ∈ s.queue, e.inFlight = true := by
  cases proxy : s.proxy with
  | proxy => exact inv.dutyQueue.link_down (by simp [State.active, proxy]) down
  | waking => exact inv.dutyQueue.link_down (by simp [State.active, proxy]) down
  | handback => exact (inv.lifecycle.handback proxy).2
  | idle => simp [inv.lifecycle.quiet (.inl proxy)]
  | report => simp [inv.lifecycle.quiet (.inr proxy)]

theorem Inv.orderly (inv : Inv s) : Orderly s where
  queue :=
    { room := inv.queue.room
      ordinary := inv.queue.ordinary
      one_in_flight := inv.queue.one_in_flight
      lengths := inv.queue.lengths
      one_each := inv.dutyQueue.one_each
      cls := inv.dutyQueue.cls
      link_down := fun down => inv.all_inFlight_of_down down }
  served := inv.queue.served
  fits := fun _ _ hu => inv.duty.fits hu
  work := fun active d => ⟨fun u hu => ⟨inv.duty.fits hu, inv.duty.timer active d u hu⟩, inv.dutyQueue.queued active d,
    fun _ => inv.blocked active d⟩
  rest := fun idle d u hu => by
    obtain ⟨waiting, values⟩ := inv.duty.at_rest idle d u hu
    exact (inv.duty.fits hu).atRest waiting values

/-! ### The cases of a command -/

/-- While the part proxies, the work of an event ends with the queue served. -/
theorem Settled.orderly (h : Settled True s) (active : s.active = true) : Orderly (startTransmit s) where
  queue := (startTransmit_settled h).queue
  served := startTransmit_served s (.inl active)
  fits := fun d u hu => (((startTransmit_settled h).duties d).sound u hu).fits
  work := fun _ => (startTransmit_settled h).duties
  rest := fun idle => by
    rw [startTransmit_proxy] at idle
    simp [State.active, idle] at active

/-- A change the duties, the queue and the network state do not see. -/
theorem Orderly.same (h : Orderly s) (same : SameWork s t) (active : t.active = true → s.active = true)
    (idle : t.proxy = .idle → s.proxy = .idle) : Orderly t where
  queue := h.queue.same same.queue fun down => by rwa [same.net] at down
  served := by
    rw [Served, same.queue]
    exact h.served
  fits := fun d u hu => by
    rw [same.duties] at hu
    exact (h.fits d u hu).mono same.stuck.2
  work := fun on d => (h.work (active on) d).same same.queue (by rw [same.duties]) same.stuck.2
  rest := fun resting => by
    rw [same.duties]
    exact h.rest (idle resting)

theorem Orderly.onlyLink (link : OnlyLink s t) (h : Orderly s) : Orderly t := by
  rw [OnlyLink] at link
  rw [link]
  exact h.same ⟨rfl, rfl, rfl, rfl⟩ id id

/-- A state in IDLE with every duty at rest. -/
theorem Orderly.of_rest (queue : t.queue = []) (idle : t.proxy = .idle)
    (rest : ∀ d : Fin 12, ∀ u ∈ (t.duties[d]).duty, u.run.AtRest) : Orderly t where
  queue := by
    refine ⟨?_, ?_, ?_, ?_, fun d => ?_, ?_, fun _ => ?_⟩ <;> rw [queue] <;> simp [ordinaryCount]
  served := fun _ => queue
  fits := fun d u hu => (rest d u hu).fits
  work := fun active => by simp [State.active, idle] at active
  rest := fun _ => rest

theorem Duty.Fresh.atRest (h : u.Fresh) : u.run.AtRest := by
  rw [h.run]
  exact ⟨⟨h.profile.startupTries, Nat.zero_le _⟩, ⟨rfl, rfl, rfl⟩, rfl, rfl, rfl, rfl, rfl, rfl⟩

theorem setProbeFlags_duty (g : Option Signature) (v : Vector DutySlot 12) (d : Fin 12) :
    ((setProbeFlags g v)[d]).duty = (v[d]).duty := by
  simp [setProbeFlags]

theorem Loads.orderly (loads : Loads s t) (idle : s.proxy = .idle) (queue : s.queue = []) (h : Orderly s) : Orderly t := by
  have rest := h.rest idle
  cases loads with
  | duty d u next fresh =>
    refine .of_rest queue idle fun e x hx => ?_
    by_cases same : d = e
    · subst same
      have slot : (s.duties.set d { s.duties[d] with duty := u })[d] = { s.duties[d] with duty := u } := Vector.getElem_set_self d.isLt
      rw [show ({ s with duties := s.duties.set d { s.duties[d] with duty := u }, freeCount := next } : State).duties[d] = _
        from slot] at hx
      exact (fresh x hx).atRest
    · have slot : (s.duties.set d { s.duties[d] with duty := u })[e] = s.duties[e] :=
        Vector.getElem_set_ne d.isLt e.isLt (Fin.val_ne_of_ne same)
      exact rest e x (slot ▸ hx)
  | signature g inRange =>
    exact .of_rest queue idle fun e x hx => rest e x ((setProbeFlags_duty g s.duties e) ▸ hx)
  | _ => exact .of_rest queue idle rest

theorem rearmAll_duty (d : Fin 12) :
    ((rearmAll s).duties[d]).duty = (s.duties[d]).duty.map fun u => { u with run := u.run.rearm } := by
  simp [rearmAll]

theorem rearmAll_orderly (h : Orderly s) (queue : s.queue = []) : Orderly (rearmAll s) := by
  refine .of_rest queue rfl fun d x hx => ?_
  rw [rearmAll_duty, Option.mem_def, Option.map_eq_some_iff] at hx
  obtain ⟨u, hu, rfl⟩ := hx
  exact ⟨⟨(h.fits d u hu).counted.allowed, Nat.zero_le _⟩, ⟨rfl, rfl, rfl⟩, rfl, rfl, rfl, rfl, rfl, rfl⟩

theorem clearAll_orderly (queue : s.queue = []) : Orderly (clearAll s) := by
  refine .of_rest queue rfl fun d x hx => ?_
  have none : ((clearAll s).duties[d]).duty = none := by simp [clearAll, clearProfileTables]
  rw [none] at hx
  cases hx

theorem tickTimers_duty (d : Fin 12) : ((tickTimers s).duties[d]).duty =
    (s.duties[d]).duty.map fun u => { u with run := { u.run with timer := Timer.tick u.run.timer } } := by
  simp [tickTimers]

theorem DutyRun.Sound.tick {stuck : Prop} {p : DutyProfile} (h : r.Sound stuck p) :
    ({ r with timer := Timer.tick r.timer } : DutyRun).Sound stuck p := by
  have running : (Timer.tick r.timer).isSome = r.timer.isSome := Option.isSome_map
  refine ⟨⟨h.fits.pending, h.fits.void, h.fits.tries, h.fits.tries_left, h.fits.rounds, h.fits.fresh_run⟩, ?_⟩
  rw [DutyRun.Timed]
  dsimp only
  rw [running]
  exact h.timed

theorem tickTimers_settled (h : Settled full s) : Settled full (tickTimers s) := by
  have queue : (tickTimers s).queue = s.queue := by simp only [tickTimers]
  have net : (tickTimers s).net = s.net := by simp only [tickTimers]
  have signature : (tickTimers s).signature = s.signature := by simp only [tickTimers]
  refine ⟨h.queue.same queue fun down => by rwa [net] at down, fun d => ?_⟩
  have stuck : Stuck (tickTimers s) d ↔ Stuck s d := by
    rw [Stuck, Stuck, (tickTimers_profileKept s).probes d, signature, net]
  refine .of_runs (tickTimers_duty d) (fun u hu => (((h.duties d).sound u hu).mono stuck.2).tick) ?_ fun isFull u hu state => ?_
  · rw [Placed, queue]
    exact (h.duties d).placed
  · rw [queue]
    exact (h.duties d).blocked isFull u hu state

theorem opened_duty (d : Fin 12) :
    ((opened s).duties[d]).duty = (s.duties[d]).duty.map fun u => { u with run := u.run.assume u.profile } := by
  simp [opened, startBlocks, sendOwner]

/-- An Assume leaves every duty WAITING with its timer running, and the queue empty (R7, R105). -/
theorem opened_settled (queue : s.queue = []) (h : Orderly s) : Settled True (opened s) where
  queue := by
    refine ⟨?_, ?_, ?_, ?_, fun d => ?_, ?_, fun _ => ?_⟩ <;> rw [show (opened s).queue = [] from queue] <;> simp [ordinaryCount]
  duties := fun d => by
    refine .of_runs (opened_duty d) (fun u hu => ?_) (iff_of_false ?_ fun ⟨u, _, state⟩ => nomatch state) fun _ u _ state => nomatch state
    · have counted := (h.fits d u hu).counted
      refine ⟨⟨iff_of_false nofun nofun, nofun, ⟨counted.allowed.1, counted.allowed.2, Nat.zero_le _⟩, ?_, ?_, fun _ => .inl rfl⟩,
        iff_of_true rfl (.inl rfl)⟩
      · simp [DutyRun.assume, DutyRun.enter]
      · exact (Nat.eq_zero_or_pos _).imp_right .inl
    · rw [Placed, show (opened s).queue = [] from queue]
      simp

theorem stopBlocks_duty (d : Fin 12) : ((stopBlocks s).duties[d]).duty =
    (s.duties[d]).duty.map fun u => { u with run := { u.run.abandon with timer := none } } := by
  simp [stopBlocks, stopTimers, mapRuns, Function.comp_def]

/-- A Reclaim leaves a run's state but for its outcome and its timer (R10, R134). -/
theorem DutyRun.Fits.abandon {stuck : Prop} {p : DutyProfile} (h : r.Fits stuck p) :
    ({ r.abandon with timer := none } : DutyRun).Fits stuck p := by
  unfold DutyRun.abandon
  split <;> exact ⟨h.pending, h.void, h.tries, h.tries_left, h.rounds, h.fresh_run⟩

theorem stopBlocks_orderly (h : Orderly s) : Orderly (stopBlocks s) where
  queue := h.queue.sublist List.filter_sublist rfl fun _ e he => (List.mem_filter.1 he).2
  served := fun silent => by
    rw [stopBlocks_queue, someInFlight_filter] at silent
    rw [stopBlocks_queue, filter_of_none_inFlight silent]
  fits := fun d x hx => by
    have stuck : Stuck (stopBlocks s) d ↔ Stuck s d := by
      rw [Stuck, Stuck, (stopBlocks_profileKept s).probes d]
      rfl
    rw [stopBlocks_duty, Option.mem_def, Option.map_eq_some_iff] at hx
    obtain ⟨u, hu, rfl⟩ := hx
    exact ((h.fits d u hu).mono stuck.2).abandon
  work := fun active => by cases active
  rest := fun idle => by cases idle

theorem handbackIfClear_orderly (h : Orderly s) : Orderly (handbackIfClear s) := by
  rcases handbackIfClear_cases s with ⟨handback, -, is⟩ | ⟨-, is⟩ <;> rw [is]
  · refine h.same ⟨rfl, rfl, rfl, rfl⟩ (fun active => ?_) fun idle => ?_
    · cases active
    · cases idle
  · exact h

theorem endWindow_sameWork (s : State) : SameWork s (endWindow s) := by
  have voted : SameWork s (takeStormVote s.windowCount (budgeted s)) := by
    rcases takeStormVote_cases s.windowCount (budgeted s) with ⟨-, e⟩ | ⟨-, -, e⟩ | ⟨-, -, -, e⟩ | ⟨-, -, -, e⟩ <;> rw [e]
    · exact ⟨rfl, rfl, rfl, rfl⟩
    · exact ⟨rfl, rfl, rfl, rfl⟩
    · exact ⟨rfl, rfl, rfl, rfl⟩
    · exact ⟨addWeight_queue _ _ _, addWeight_duties _ _ _, addWeight_net _ _ _, addWeight_signature _ _ _⟩
  exact ⟨voted.queue, voted.duties, voted.net, voted.signature⟩

theorem expireIfZero_settled (h : Settled full s) (prof : Profiled s) : Settled full (expireIfZero s d) := by
  unfold expireIfZero
  split
  · exact expireDutyTimer_settled d h prof
  · exact h

theorem Serves.settled (serves : Serves s c t) (active : s.active = true) (h : Settled True s) (prof : Profiled s) : Settled True t := by
  cases serves with
  | send => exact h
  | receive frame => exact classify_settled active frame h prof
  | offer =>
    rw [offerPlace_of_settled h]
    exact h
  | resume => exact resumeDeferred_settled h prof
  | dutyTimer d => exact expireDutyTimer_settled d h prof
  | replyWindow d => exact expireReplyWindow_settled d h prof
  | backoff d => exact expireBackoff_settled d h prof
  | result result e rest _ flight =>
    have prof' : Profiled { s with queue := rest } := prof.kept (.of_tables (by constructor <;> rfl) rfl rfl)
    exact arbiter_settled (handResult_settled result h prof active flight) (prof'.works (handResult_works e.origin result))

theorem Acts.orderly (acts : Acts s c t) (inv : Inv s) : Orderly t := by
  have h := inv.orderly
  have prof : Profiled s := ⟨⟨inv.ranges, inv.pool⟩, inv.net.flags⟩
  cases acts with
  | still => exact h
  | reset => exact (resetPart_inv s).orderly
  | load _ _ idle loads => exact loads.orderly idle (inv.lifecycle.quiet (.inl idle)) h
  | clear m idle => exact clearAll_orderly (inv.lifecycle.quiet (.inl idle))
  | assume m idle =>
    have active : (expired s).active = true := (expired_works s).sameFrame.active
    have started : Settled True (expired s) :=
      foldl_settled expireIfZero_works (fun _ _ h prof => expireIfZero_settled h prof) _
        (opened_settled (inv.lifecycle.quiet (.inl idle)) h) (prof.kept (opened_profileKept s))
    rw [startProxy_eq]
    exact started.orderly active
  | reclaim m active => exact handbackIfClear_orderly (stopBlocks_orderly h)
  | rearm m report => exact rearmAll_orderly h (inv.lifecycle.quiet (.inr report))
  | detach m report => exact clearAll_orderly (inv.lifecycle.quiet (.inr report))
  | fetch m x rest report held => exact h.same ⟨rfl, rfl, rfl, rfl⟩ id id
  | complete => exact handbackIfClear_orderly h
  | elapse active =>
    have aged : Settled True { s with elapsed := satAdd32 s.elapsed 1 } := (h.settled active).same ⟨rfl, rfl, rfl, rfl⟩
    have ticked := tickTimers_settled aged
    exact ⟨ticked.queue, h.served, fun d u hu => ((ticked.duties d).sound u hu).fits, fun _ => ticked.duties,
      fun idle => absurd idle (not_idle_of_active active)⟩
  | age => exact h.same ⟨rfl, rfl, rfl, rfl⟩ id id
  | serve _ u busy serves =>
    rcases busy with active | handback
    · have on : u.active = true := by
        have same := serves.active.1
        rwa [startTransmit_active, active] at same
      exact (serves.settled active (h.settled active) prof).orderly on
    · rw [serves.startTransmit_of_handback inv.lifecycle handback, serves.of_handback handback]
      exact h.same ⟨rfl, rfl, rfl, rfl⟩ id id
  | lastResult result e rest handback flight =>
    have nil := rest_nil_of_all_inFlight inv.queue.one_in_flight (inv.lifecycle.handback handback).2 flight
    have taken : Orderly { s with queue := rest } :=
      ⟨h.queue.taken flight, fun _ => nil, h.fits, fun active => by simp [State.active, handback] at active, h.rest⟩
    rw [handResult_of_handback (s := { s with queue := rest }) handback e.origin result]
    exact handbackIfClear_orderly (taken.same ⟨rfl, rfl, rfl, rfl⟩ id id)
  | link l passive => exact h.same ⟨rfl, rfl, rfl, rfl⟩ id id
  | linkUp active =>
    have linked : Settled True { s with linkState := .up } := (h.settled active).same ⟨rfl, rfl, rfl, rfl⟩
    refine (linkUp_settled linked (prof.kept (.of_tables (by constructor <;> rfl) rfl rfl)) fun g hg => ?_).orderly ?_
    · obtain ⟨u, hu, -⟩ := inv.net.probe active g hg
      have probe : probeDuty? s = some g.probeDuty := probeDuty?_of_signature inv.net hg hu
      exact ⟨probe, u, hu⟩
    · exact (linkUp_frame { s with linkState := .up }).1.trans active
  | linkDown active =>
    have linked : Settled True { s with linkState := .down } := (h.settled active).same ⟨rfl, rfl, rfl, rfl⟩
    refine (linkDown_settled linked (prof.kept (.of_tables (by constructor <;> rfl) rfl rfl))).orderly ?_
    exact (linkDown_frame { s with linkState := .down }).1.trans active
  | tentative => exact h.same ⟨rfl, rfl, rfl, rfl⟩ id id
  | contest => exact h.same ⟨rfl, rfl, rfl, rfl⟩ id id
  | window active =>
    have stays := (endWindow_frame s).1.trans active
    exact h.same (endWindow_sameWork s) (fun _ => active) fun idle => absurd idle (not_idle_of_active stays)
  | decay => exact h.same ⟨rfl, rfl, rfl, rfl⟩ id id
  | settle active =>
    have stays : (evaluateAll { s with settleTimer := none }).active = true := by
      rw [evaluateAll_active]
      exact active
    exact h.same ⟨by simp, by simp, by simp, by simp⟩ (fun _ => active) fun idle => absurd idle (not_idle_of_active stays)
  | patience =>
    split <;> exact h.same ⟨rfl, rfl, rfl, rfl⟩ id id
  | gap => exact h.same ⟨rfl, rfl, rfl, rfl⟩ id id

/-! ### O7 and O8 -/

/-- Settles O7: the queue and the duties are kept together, a step of the scheduler at a time. -/
theorem step_keeps_the_transmit_queue : Obligations.Step_keeps_the_transmit_queue := fun _ _ inv h => by
  have orderly := step_keeps (P := Orderly) (fun _ => Inv.orderly) (fun _ _ => Orderly.onlyLink)
    (fun _ _ _ inv acts => acts.orderly inv) inv h
  exact ⟨orderly.queueInv, orderly.dutyQueueInv, orderly.blockedInv⟩

/-- Settles O8. -/
theorem step_keeps_the_duties : Obligations.Step_keeps_the_duties := fun _ _ inv h =>
  (step_keeps (P := Orderly) (fun _ => Inv.orderly) (fun _ _ => Orderly.onlyLink)
    (fun _ _ _ inv acts => acts.orderly inv) inv h).dutyInv

end Sys2Proof.Machine
end

section
/-! SUPPORT. The nine checks of an Assume, read declaratively; then obligation O31. -/

namespace Sys2Proof.Machine

variable {s : State} {d : Fin 12} {r : Rule} {p : DutyProfile} {list : Option (Fin 32)} {tag : Byte}

/-! ### The tests of the checks -/

theorem templateLoaded_iff (t : Fin 48) : templateLoaded s t = true ↔ Loaded s t := template?_isSome_iff s t

theorem templateLoaded_eq_false (t : Fin 48) : templateLoaded s t = false ↔ ¬Loaded s t := by
  rw [← templateLoaded_iff, Bool.not_eq_true]

/-- A patch fills from an entry by index that is not in use (check 3). -/
def fillsUnused (s : State) : Patch → Bool
  | .fillEntry _ (.index i) => (s.entries[i]).isNone
  | _ => false

theorem listMissing_some (id : Fin 32) :
    listMissing s (some id) = ((s.patchLists[id]).isNone || (patchesOf s (some id)).any (fillsUnused s)) := rfl

theorem any_fillsUnused_iff : (patchesOf s list).any (fillsUnused s) = true ↔
    ∃ dest e, Patch.fillEntry dest (.index e) ∈ listOf s list ∧ s.entries[e] = none := by
  rw [patchesOf_eq, List.any_eq_true]
  constructor
  · rintro ⟨q, hq, missing⟩
    unfold fillsUnused at missing
    split at missing
    · exact ⟨_, _, hq, Option.isNone_iff_eq_none.1 missing⟩
    · cases missing
  · rintro ⟨dest, e, hq, missing⟩
    exact ⟨_, hq, Option.isNone_iff_eq_none.2 missing⟩

theorem listMissing_iff : listMissing s list = true ↔ ListMissing s list := by
  cases list with
  | none => exact iff_of_false nofun fun ⟨_, named, _⟩ => nomatch named
  | some id =>
    rw [listMissing_some, Bool.or_eq_true, any_fillsUnused_iff, Option.isNone_iff_eq_none]
    exact ⟨fun missing => ⟨id, rfl, missing⟩, fun ⟨_, rfl, missing⟩ => missing⟩

theorem patchFits_iff (user : PairUser) (len : Nat) (matched : Nat → Prop)
    (fills : ∀ dest, patchFits s user len (.fillEntry dest .matched) = true ↔ matched dest) (q : Patch) :
    patchFits s user len q = true ↔ PatchBound s len matched q := by
  cases q with
  | fillEntry dest source =>
    cases source with
    | matched => exact fills dest
    | index i =>
      simp only [patchFits, PatchBound]
      cases s.entries[i] with
      | none => simp
      | some e =>
        cases hv : e.value <;> simp [hv, NetAddr.kind, AddrKind.size]
  | sum16 start stop store pseudo addrA addrB protocol zeroAsOnes =>
    cases pseudo <;> simp [patchFits, PatchBound, and_assoc]
  | _ => simp [patchFits, PatchBound]

theorem patchFits_rule_iff (len : Nat) (q : Patch) :
    patchFits s (.rule (r.addrRef.map AddrRef.kind)) len q = true ↔ PatchBound s len (MatchedBound r len) q := by
  refine patchFits_iff _ len _ (fun dest => ?_) q
  cases hr : r.addrRef with
  | none => simp [patchFits, MatchedBound, hr]
  | some a =>
    have bound : MatchedBound r len dest ↔ dest + a.kind.size ≤ len := by
      simp only [MatchedBound, hr, Option.mem_def, Option.some.injEq, exists_eq_left']
      cases a.kind <;> rfl
    rw [bound]
    exact decide_eq_true_iff

theorem patchFits_duty_iff (len : Nat) (q : Patch) :
    patchFits s .duty len q = true ↔ PatchBound s len (fun _ => True) q :=
  patchFits_iff _ len _ (fun _ => iff_of_true rfl trivial) q

theorem pairBroken_iff {user : PairUser} {template : Option (Fin 48)} {matched : Nat → Nat → Prop}
    (fits : ∀ len q, patchFits s user len q = true ↔ PatchBound s len (matched len) q) :
    pairBroken s user template list = true ↔
      ∃ t ∈ template, ∃ b ∈ template? s t, ∃ q ∈ listOf s list, ¬PatchBound s b.length (matched b.length) q := by
  have broken : ∀ b : List Byte, ((patchesOf s list).any fun q => !patchFits s user b.length q) = true ↔
      ∃ q ∈ listOf s list, ¬PatchBound s b.length (matched b.length) q := fun b => by
    simp [patchesOf_eq, ← fits]
  rw [pairBroken]
  cases found : template.bind (template? s) with
  | none =>
    rw [Option.bind_eq_none_iff] at found
    refine iff_of_false nofun fun ⟨t, ht, b, hb, _⟩ => ?_
    exact nomatch (found t ht).symm.trans hb
  | some b =>
    obtain ⟨t, ht, hb⟩ := Option.bind_eq_some_iff.1 found
    refine (broken b).trans ⟨fun breaks => ⟨t, ht, b, hb, breaks⟩, fun ⟨t', ht', b', hb', breaks⟩ => ?_⟩
    obtain rfl := Option.mem_unique ht' ht
    obtain rfl := Option.mem_unique hb' hb
    exact breaks

theorem hasCounter_iff : hasCounter (patchesOf s list) = true ↔ ∃ dest width, Patch.counter dest width ∈ listOf s list := by
  rw [hasCounter, patchesOf_eq, List.any_eq_true]
  constructor
  · rintro ⟨q, hq, is⟩
    split at is
    · exact ⟨_, _, hq⟩
    · cases is
  · rintro ⟨dest, width, hq⟩
    exact ⟨_, hq, rfl⟩

theorem needsRequest_iff : needsRequest (patchesOf s list) = true ↔
    (∃ a b n, Patch.copy a b n ∈ listOf s list) ∨ ∃ dest, Patch.fillEntry dest .matched ∈ listOf s list := by
  rw [needsRequest, patchesOf_eq, List.any_eq_true]
  constructor
  · rintro ⟨q, hq, is⟩
    split at is
    · exact .inl ⟨_, _, _, hq⟩
    · exact .inr ⟨_, hq⟩
    · cases is
  · rintro (⟨a, b, n, hq⟩ | ⟨dest, hq⟩)
    · exact ⟨_, hq, rfl⟩
    · exact ⟨_, hq, rfl⟩

theorem answerMissing_iff (r : Rule) : (r.action == .answer && !r.template.any (templateLoaded s)) = true ↔
    r.action = .answer ∧ ∀ t ∈ r.template, ¬Loaded s t := by
  rw [Bool.and_eq_true, beq_iff_eq, Bool.not_eq_true', Option.any_eq_false]
  exact and_congr_right fun _ => forall₂_congr fun t _ => templateLoaded_eq_false t

theorem pairMissing_iff (r : Rule) :
    (r.template.any (fun t => !templateLoaded s t) || listMissing s r.patchList) = true ↔
      (∃ t ∈ r.template, ¬Loaded s t) ∨ ListMissing s r.patchList := by
  rw [Bool.or_eq_true, listMissing_iff, Option.any_eq_true]
  exact or_congr_left (exists_congr fun t => and_congr_right fun _ => by rw [Bool.not_eq_true', templateLoaded_eq_false])

theorem dutyPairBroken_iff (p : DutyProfile) : pairBroken s .duty (some p.template) p.patchList = true ↔
    ∃ b ∈ template? s p.template, ∃ q ∈ listOf s p.patchList, ¬PatchBound s b.length (fun _ => True) q := by
  rw [pairBroken_iff (matched := fun _ _ => True) patchFits_duty_iff]
  simp

theorem templateMissing_iff (p : DutyProfile) : (!templateLoaded s p.template) = true ↔ ¬Loaded s p.template := by
  rw [Bool.not_eq_true', templateLoaded_eq_false]

theorem groupMissing_iff : groupMissing s r = true ↔ ∃ k : Fin 8, r.groups.getLsbD k.val = true ∧ (s.groups[k]).inUse = false := by
  simp [groupMissing]

theorem probeMissing_iff : probeMissing s = true ↔
    ∃ g ∈ s.signature, ∀ u ∈ (s.duties[g.probeDuty]).duty, u.profile.reply = none := by
  rw [probeMissing, Option.any_eq_true]
  refine exists_congr fun g => and_congr_right fun _ => ?_
  rw [Bool.not_eq_true', Option.any_eq_false]
  simp [duty?]

/-! ### The first item that offends -/

/-- A search answers the least index of a property, with its table, or nothing. -/
def Finds (table : CheckTable) (P : Nat → Prop) (found : Option (CheckTable × Nat)) : Prop :=
  (found = none ∧ ∀ i, ¬P i) ∨ ∃ i, found = some (table, i) ∧ P i ∧ ∀ j, j < i → ¬P j

theorem Finds.congr {table : CheckTable} {P Q : Nat → Prop} {found : Option (CheckTable × Nat)} (h : Finds table P found)
    (same : ∀ i, P i ↔ Q i) : Finds table Q found := by
  have is : P = Q := funext fun i => propext (same i)
  exact is ▸ h

theorem finds_if {table : CheckTable} {c : Prop} [Decidable c] :
    Finds table (fun i => i = 0 ∧ c) (if c then some (table, 0) else none) := by
  by_cases h : c
  · exact .inr ⟨0, if_pos h, ⟨rfl, h⟩, nofun⟩
  · exact .inl ⟨if_neg h, fun _ both => h both.2⟩

theorem finds_first {n : Nat} {table : CheckTable} {b : Fin n → Bool} {P : Fin n → Prop} (h : ∀ k, b k = true ↔ P k) :
    Finds table (fun i => ∃ k : Fin n, k.val = i ∧ P k) (((List.finRange n).find? b).map fun k => (table, k.val)) := by
  cases found : (List.finRange n).find? b with
  | none =>
    refine .inl ⟨rfl, fun i ⟨k, _, hk⟩ => ?_⟩
    exact List.find?_eq_none.1 found k (List.mem_finRange k) ((h k).2 hk)
  | some k =>
    obtain ⟨holds, first⟩ := find?_finRange_eq_some.1 found
    refine .inr ⟨k.val, rfl, ⟨k, rfl, (h k).1 holds⟩, fun j lower ⟨e, is, he⟩ => ?_⟩
    subst is
    exact absurd ((h e).2 he) (by simp [first e lower])

theorem firstRule_finds {b : Rule → Bool} {P : Rule → Prop} (h : ∀ r, b r = true ↔ P r) :
    Finds .rule (fun i => RuleAt s i P) (firstRule s b) :=
  finds_first fun k => by rw [Bool.and_eq_true, h]

theorem firstDuty_finds {b : DutyProfile → Bool} {P : DutyProfile → Prop} (h : ∀ p, b p = true ↔ P p) :
    Finds .duty (fun i => DutyAt s i P) (firstDuty s b) := by
  have each : ∀ d : Fin 12, ((duty? s d).any fun u => b u.profile) = true ↔ ∃ u, (s.duties[d]).duty = some u ∧ P u.profile :=
    fun d => by
      rw [Option.any_eq_true]
      exact exists_congr fun u => and_congr_right fun _ => h u.profile
  exact (finds_first each).congr fun i => by simp only [DutyAt, exists_and_left]

/-! ### The eleven steps -/

/-- What each step of the profile check answers (R5). -/
def stepFound (s : State) : Nat → Option (CheckTable × Nat)
  | 0 => if s.station.ownAddr = 0 then some (.station, 0) else none
  | 1 => firstRule s fun r => r.action == .answer && !r.template.any (templateLoaded s)
  | 2 => firstRule s fun r => r.template.any (fun t => !templateLoaded s t) || listMissing s r.patchList
  | 3 => firstDuty s fun p => listMissing s p.patchList
  | 4 => firstRule s fun r => pairBroken s (.rule (r.addrRef.map AddrRef.kind)) r.template r.patchList
  | 5 => firstDuty s fun p => pairBroken s .duty (some p.template) p.patchList
  | 6 => firstRule s fun r => hasCounter (patchesOf s r.patchList)
  | 7 => firstDuty s fun p => needsRequest (patchesOf s p.patchList)
  | 8 => firstDuty s fun p => !templateLoaded s p.template
  | 9 => if probeMissing s then some (.signature, 0) else none
  | 10 => firstRule s (groupMissing s)
  | _ => none

/-- The table each step names. -/
def stepTable : Nat → CheckTable
  | 0 => .station
  | 3 | 5 | 7 | 8 => .duty
  | 9 => .signature
  | _ => .rule

theorem stepTable_code : ∀ k : Fin 11, (stepTable k.val).code = offenceTable k.val := by decide

theorem profileCheck_eq (s : State) : profileCheck s = (List.finRange 11).findSome? fun k => stepFound s k.val := by
  rw [← Fin.findSome?_eq_findSome?_finRange]
  simp only [Fin.findSome?_succ, Fin.findSome?_zero, Option.or_none, profileCheck, Option.orElse_eq_orElse, Option.orElse_eq_or]
  rfl

/-- Each step answers the least index that offends against it (R5, R6, R82). -/
theorem stepFound_finds (s : State) (k : Nat) (hk : k < 11) : Finds (stepTable k) (Offends s k) (stepFound s k) := by
  match k, hk with
  | 0, _ => exact finds_if
  | 1, _ => exact firstRule_finds answerMissing_iff
  | 2, _ => exact firstRule_finds pairMissing_iff
  | 3, _ => exact firstDuty_finds fun p => listMissing_iff
  | 4, _ => exact firstRule_finds fun r => pairBroken_iff (matched := MatchedBound r) patchFits_rule_iff
  | 5, _ => exact firstDuty_finds dutyPairBroken_iff
  | 6, _ => exact firstRule_finds fun r => hasCounter_iff
  | 7, _ => exact firstDuty_finds fun p => needsRequest_iff
  | 8, _ => exact firstDuty_finds templateMissing_iff
  | 9, _ => exact finds_if.congr fun i => and_congr_right fun _ => probeMissing_iff
  | 10, _ => exact firstRule_finds (s := s) (b := groupMissing s) fun r => groupMissing_iff (r := r)

theorem not_offends_late {n i : Nat} : ¬Offends s (n + 11) i := by
  simp only [Offends, not_false_eq_true]

theorem lt_of_offends {k i : Nat} (h : Offends s k i) : k < 11 := by
  refine Nat.lt_of_not_le fun late => ?_
  obtain ⟨n, rfl⟩ := Nat.exists_eq_add_of_le' late
  exact not_offends_late h

theorem stepFound_eq_none {k : Nat} (hk : k < 11) (sound : ∀ i, ¬Offends s k i) : stepFound s k = none := by
  rcases stepFound_finds s k hk with ⟨is, -⟩ | ⟨i, -, offends, -⟩
  · exact is
  · exact absurd offends (sound i)

theorem FirstOffence.found {step i : Nat} (h : FirstOffence s step i) : profileCheck s = some (stepTable step, i) := by
  have within := lt_of_offends h.offends
  rw [profileCheck_eq, ← Fin.findSome?_eq_findSome?_finRange, Fin.findSome?_eq_some_iff]
  refine ⟨⟨step, within⟩, ?_, fun k hk => stepFound_eq_none k.isLt (h.earlier k.val hk)⟩
  rcases stepFound_finds s step within with ⟨-, none⟩ | ⟨j, is, offends, lower⟩
  · exact absurd h.offends (none i)
  · have same : j = i := le_antisymm (Nat.le_of_not_lt fun lt => lower i lt h.offends) (Nat.le_of_not_lt fun lt => h.lower j lt offends)
    rw [is, same]

theorem profileCheck_of_ok (ok : ProfileOk s) : profileCheck s = none := by
  rw [profileCheck_eq, ← Fin.findSome?_eq_findSome?_finRange, Fin.findSome?_eq_none_iff]
  exact fun k => stepFound_eq_none k.isLt (ok k.val)

/-- A profile that fails has a first offence: the least step that has one, and the least index there. -/
theorem exists_firstOffence (fails : ¬ProfileOk s) : ∃ step i, FirstOffence s step i := by
  classical
  have some_step : ∃ step, ∃ i, Offends s step i := by simpa [ProfileOk] using fails
  have some_index := Nat.find_spec some_step
  exact ⟨Nat.find some_step, Nat.find some_index, Nat.find_spec some_index,
    fun k hk j offends => Nat.find_min some_step hk ⟨j, offends⟩, fun j hj => Nat.find_min some_index hj⟩

/-! ### O31 -/

theorem exec_assume_of_idle (idle : s.proxy = .idle) (unread : s.reply = none) :
    exec (.assume (requestOf tag [])) s = .next (settle 0x0C tag (judgeAssume s) s) := by
  rw [exec_assume]
  exact congrArg Host.Outcome.next (takeRequest_of_accepts (k := assumeKind) unread (Nat.zero_le _)
    (by simp [assumeKind, inIdle, idle]) (by simp [assumeKind]))

theorem settle_performed_proxy {t : State} {kind : Byte} {body : List Byte} (h : t.proxy = .proxy) :
    ∃ u r, Host.Outcome.next (settle kind tag (.performed t false body) s) = (.next u : Host.Outcome State Fault Refusal) ∧
      u.proxy = .proxy ∧ u.reply = some r ∧ r.status = .ok := ⟨_, _, rfl, h, rfl, rfl⟩

/-- Settles O31. -/
theorem assume_runs_the_nine_checks : Obligations.Assume_runs_the_nine_checks := by
  intro s tag idle unread
  have run := exec_assume_of_idle (tag := tag) idle unread
  refine ⟨fun ok => ?_, fun step i first => ?_, exists_firstOffence⟩
  · rw [run, judgeAssume_of_ok (profileCheck_of_ok ok)]
    exact settle_performed_proxy (startProxy_moves s).1
  · rw [run, judgeAssume_of_offence first.found, stepTable_code ⟨step, lt_of_offends first.offends⟩]
    rfl

end Sys2Proof.Machine
end

section
/-! SUPPORT. The state an Assume leaves: the blocks started, and the walk over the duties whose first delay of 0 s expires at once; then
obligation O32. -/

namespace Sys2Proof.Machine

variable {s t : State} {d k : Fin 12} {u : Duty} {r : DutyRun} {tag : Byte}

/-! ### The duties that start at once -/

/-- The run counter of a duty's next run (R108). -/
def nextCounter (u : Duty) : BitVec 32 := u.run.counter + u.profile.counterInc.setWidth 32

/-- The duties of `l` whose first delay is 0 s (R107). -/
def dueIn (s : State) (l : List (Fin 12)) : List (Fin 12 × Duty) :=
  l.filterMap fun d => ((s.duties[d]).duty.filter fun u => u.profile.firstDelay = 0).map fun u => (d, u)

/-- The entry of a duty's first frame. -/
def firstEntry (s : State) (x : Fin 12 × Duty) : TxEntry :=
  { origin := .duty x.1, cls := .duty, frame := buildDuty s { x.2 with run := { x.2.run with counter := nextCounter x.2 } },
    inFlight := false }

/-- The entries the duties of `l` add to the queue: the first 8, with the link up (R89, R107). -/
def sentIn (s : State) (l : List (Fin 12)) : List TxEntry :=
  if s.linkState = .up then ((dueIn s l).take 8).map (firstEntry s) else []

theorem sentIn_waits {l : List (Fin 12)} {e : TxEntry} (h : e ∈ sentIn s l) : e.inFlight = false := by
  unfold sentIn at h
  split at h
  · obtain ⟨x, -, rfl⟩ := List.mem_map.1 h
    rfl
  · cases h

/-- The run-time state Assume gives a duty, `n` duties having been due before it (R7, R107). -/
def assumedRun (s : State) (n : Nat) (u : Duty) : DutyRun :=
  if u.profile.firstDelay ≠ 0 then u.run.assume u.profile
  else if s.linkState ≠ .up then (u.run.assume u.profile).defer .newRun
  else { (u.run.assume u.profile).enter (if n < 8 then .queued else .blocked) with
    counter := nextCounter u, triesAllowed := u.profile.startupTries, firstRun := false }

theorem assumedRun_eq (s : State) (n : Nat) (u : Duty) (fresh : DutyRun)
    (new : fresh = { u.run with
      state := .waiting, pending := none, void := false, firstRun := true, triesUsed := 0, failedRounds := 0,
      runsCompleted := 0, lastOutcome := .none, timer := none }) :
    assumedRun s n u =
      if u.profile.firstDelay ≠ 0 then { fresh with timer := some (1000 * u.profile.firstDelay) }
      else if s.linkState ≠ .up then { fresh with state := .deferred, pending := some .newRun }
      else { fresh with
        state := if n < 8 then .queued else .blocked
        counter := nextCounter u
        triesAllowed := u.profile.startupTries
        firstRun := false } := by
  subst new
  rw [Nat.mul_comm]
  rfl

/-- The state once the walk has passed the duties below `n`. -/
def walked (s : State) (n : Nat) : State :=
  { opened s with
    duties := Vector.ofFn fun d : Fin 12 => { s.duties[d] with
      duty := (s.duties[d]).duty.map fun u => { u with
        run := if d.val < n then assumedRun s (dueIn s ((List.finRange 12).take d)).length u else u.run.assume u.profile } }
    queue := sentIn s ((List.finRange 12).take n) }

theorem walked_slot (s : State) (n : Nat) (d : Fin 12) : (walked s n).duties[d] = { s.duties[d] with
    duty := (s.duties[d]).duty.map fun u => { u with
      run := if d.val < n then assumedRun s (dueIn s ((List.finRange 12).take d)).length u else u.run.assume u.profile } } := by
  simp [walked]

theorem walked_zero (empty : s.queue = []) : walked s 0 = opened s := by
  have duties : (walked s 0).duties = (opened s).duties := rfl
  have queue : (walked s 0).queue = (opened s).queue := by
    change sentIn s [] = s.queue
    rw [empty, sentIn]
    split <;> rfl
  exact congrArg₂ (fun v q => { opened s with duties := v, queue := q }) duties queue

theorem dueIn_take_succ (s : State) (k : Fin 12) :
    dueIn s ((List.finRange 12).take (k.val + 1)) = dueIn s ((List.finRange 12).take k) ++ dueIn s [k] := by
  have here : (List.finRange 12)[k.val]? = some k := by simp
  rw [List.take_add_one, here]
  exact List.filterMap_append

theorem walked_duty (hu : (s.duties[k]).duty = some u) :
    ((walked s k).duties[k]).duty = some { u with run := u.run.assume u.profile } := by
  rw [walked_slot, hu, Option.map_some, if_neg (lt_irrefl _)]

/-- The walk passes a duty: its run-time state as Assume gives it, and the entries so far. -/
theorem walked_succ (hu : (s.duties[k]).duty = some u) (is : r = assumedRun s (dueIn s ((List.finRange 12).take k)).length u) :
    { withRun k r (walked s k) with queue := sentIn s ((List.finRange 12).take (k.val + 1)) } = walked s (k.val + 1) := by
  have slots : ∀ e : Fin 12, (withRun k r (walked s k)).duties[e] = (walked s (k.val + 1)).duties[e] := fun e => by
    by_cases same : k = e
    · subst same
      rw [withRun_duties_self (walked_duty hu), walked_slot, walked_slot]
      simp only [hu, Option.map_some, Nat.lt_succ_self, if_true, ← is]
    · have order : e.val < k.val ↔ e.val < k.val + 1 := by
        have := Fin.val_ne_of_ne same
        omega
      rw [withRun_duties_ne same, walked_slot, walked_slot]
      simp only [order]
  exact congrArg (fun v => { opened s with duties := v, queue := sentIn s ((List.finRange 12).take (k.val + 1)) })
    (Vector.ext fun e he => slots ⟨e, he⟩)

/-- A duty with a first delay, or none at all, is passed by. -/
theorem walked_of_not_due (h : ∀ u ∈ (s.duties[k]).duty, u.profile.firstDelay ≠ 0) : walked s k = walked s (k.val + 1) := by
  have none : dueIn s [k] = [] := by
    refine List.filterMap_eq_nil_iff.2 fun d hd => ?_
    rw [List.mem_singleton] at hd
    subst hd
    rw [Option.map_eq_none_iff, Option.filter_eq_none_iff]
    intro u hu
    simpa using h u hu
  have queue : sentIn s ((List.finRange 12).take (k.val + 1)) = sentIn s ((List.finRange 12).take k) := by
    rw [sentIn, sentIn, dueIn_take_succ, none, List.append_nil]
  cases hu : (s.duties[k]).duty with
  | none =>
    have slots : ∀ e : Fin 12, (walked s k).duties[e] = (walked s (k.val + 1)).duties[e] := fun e => by
      rw [walked_slot, walked_slot]
      by_cases same : k = e
      · subst same
        rw [hu, Option.map_none, Option.map_none]
      · have order : e.val < k.val ↔ e.val < k.val + 1 := by
          have := Fin.val_ne_of_ne same
          omega
        simp only [order]
    exact congrArg₂ (fun v q => { opened s with duties := v, queue := q }) (Vector.ext fun e he => slots ⟨e, he⟩) queue.symm
  | some u =>
    have step := walked_succ (r := u.run.assume u.profile) hu (if_pos (h u hu)).symm
    rw [queue] at step
    rw [← step]
    exact (withRun_self (walked_duty hu)).symm

theorem dueIn_of_due (hu : (s.duties[k]).duty = some u) (due : u.profile.firstDelay = 0) : dueIn s [k] = [(k, u)] := by
  simp only [dueIn, List.filterMap_cons, List.filterMap_nil, hu, Option.filter_some, due, decide_true, if_true, Option.map_some]

/-! ### The expiry of a first delay of 0 s -/

theorem expireIfZero_of_due {x : Duty} (hx : (t.duties[k]).duty = some x) (active : t.active = true) (waiting : x.run.state = .waiting)
    (zero : x.run.timer = some 0) : expireIfZero t k = beginRun k (withRun k { x.run with timer := none } t) := by
  rw [expireIfZero, if_pos, expireDutyTimer_of_waiting hx active waiting (by rw [zero]; rfl)]
  rw [duty?_eq hx, Option.any_some, zero]
  rfl

theorem expireIfZero_of_not_due (h : ∀ x ∈ (t.duties[k]).duty, x.run.timer ≠ some 0) : expireIfZero t k = t := by
  refine if_neg fun expires => ?_
  obtain ⟨x, hx, zero⟩ := (Option.any_eq_true _ _).1 expires
  exact h x hx (by simpa using zero)

/-- A build reads of a duty its profile and its run counter alone (R70, R109). -/
theorem buildDuty_congr {x y : Duty} (station : t.station = s.station) (pool : t.pool = s.pool) (lists : t.patchLists = s.patchLists)
    (values : ∀ i : Fin 16, (t.entries[i]).map AddrEntry.value = (s.entries[i]).map AddrEntry.value)
    (profile : x.profile = y.profile) (counter : x.run.counter = y.run.counter) : buildDuty t x = buildDuty s y := by
  have patches : ∀ list, patchesOf t list = patchesOf s list := fun list => by simp only [patchesOf, lists]
  simp only [buildDuty, buildFrame, template?, station, pool, patches, applyPatch_congr station values, profile, counter]

theorem opened_entry_not_lost (s : State) (i : Fin 16) : ∀ e ∈ (opened s).entries[i], e.state ≠ .lost := by
  intro e he
  rw [opened_entries, getElem_mapTable, Option.mem_def, Option.map_eq_some_iff] at he
  obtain ⟨a, -, rfl⟩ := he
  cases hl : a.loaded <;> simp [AddrEntry.assume, AddrEntry.restore, hl]

theorem opened_values (s : State) (i : Fin 16) :
    ((opened s).entries[i]).map AddrEntry.value = (s.entries[i]).map AddrEntry.value := by
  rw [opened_entries, getElem_mapTable, Option.map_map]
  rfl

theorem not_namesLost_of_entries {list : Option (Fin 32)} (entries : t.entries = (opened s).entries) : ¬NamesLost t list := by
  rintro ⟨dest, i, e, -, he, lost⟩
  rw [entries] at he
  exact opened_entry_not_lost s i e he lost

/-- A duty's run-time state at its first try (R108). -/
def firstRun (u : Duty) : DutyRun :=
  { (u.run.assume u.profile) with
    timer := none, counter := nextCounter u, triesAllowed := u.profile.startupTries, firstRun := false }

theorem begun_eq_firstRun (u : Duty) :
    Duty.begun { u with run := { u.run.assume u.profile with timer := none } } = firstRun u := by
  have inc : BitVec.ofNat 32 u.profile.counterInc.toNat = u.profile.counterInc.setWidth 32 := BitVec.ofNat_toNat _ _
  have counter : u.run.counter + BitVec.ofNat 32 u.profile.counterInc.toNat = nextCounter u := by rw [inc, nextCounter]
  exact congrArg (fun c => { firstRun u with counter := c }) counter

section Due

variable (hu : (s.duties[k]).duty = some u) (zero : u.profile.firstDelay = 0)
include hu zero

theorem sentIn_succ_of_room (up : s.linkState = .up) (room : (dueIn s ((List.finRange 12).take k)).length < 8) :
    sentIn s ((List.finRange 12).take (k.val + 1)) = sentIn s ((List.finRange 12).take k) ++ [firstEntry s (k, u)] := by
  have before : (dueIn s ((List.finRange 12).take k)).take 8 = dueIn s ((List.finRange 12).take k) :=
    List.take_of_length_le room.le
  have whole : (dueIn s ((List.finRange 12).take k) ++ [(k, u)]).take 8 = dueIn s ((List.finRange 12).take k) ++ [(k, u)] :=
    List.take_of_length_le (by rw [List.length_append]; exact room)
  rw [sentIn, sentIn, if_pos up, if_pos up, dueIn_take_succ, dueIn_of_due hu zero, before, whole, List.map_append,
    List.map_singleton]

theorem sentIn_succ_of_full (full : 8 ≤ (dueIn s ((List.finRange 12).take k)).length) :
    sentIn s ((List.finRange 12).take (k.val + 1)) = sentIn s ((List.finRange 12).take k) := by
  rw [sentIn, sentIn, dueIn_take_succ, dueIn_of_due hu zero, List.take_append_of_le_length full]

/-- With the link up, a duty due takes the next place of the queue, or waits for one. -/
theorem makeTry_walked (up : s.linkState = .up) : makeTry k (withRun k (firstRun u) (walked s k)) = walked s (k.val + 1) := by
  have duty : ((withRun k (firstRun u) (walked s k)).duties[k]).duty = some { u with run := firstRun u } :=
    withRun_duty (walked_duty hu) _
  have leave : Leave (withRun k (firstRun u) (walked s k)) k := by
    have net : (withRun k (firstRun u) (walked s k)).net = netAtAssume s.linkState := rfl
    exact .inl (net.trans (by rw [up]; rfl))
  have sound : ¬NamesLost (withRun k (firstRun u) (walked s k)) u.profile.patchList := not_namesLost_of_entries (s := s) rfl
  have length : (withRun k (firstRun u) (walked s k)).queue.length = min 8 (dueIn s ((List.finRange 12).take k)).length := by
    have queue : (withRun k (firstRun u) (walked s k)).queue = sentIn s ((List.finRange 12).take k) := rfl
    rw [queue, sentIn, if_pos up, List.length_map, List.length_take]
  by_cases room : (dueIn s ((List.finRange 12).take k)).length < 8
  · have frame : buildDuty (withRun k (firstRun u) (walked s k)) { u with run := firstRun u } =
        buildDuty s { u with run := { u.run with counter := nextCounter u } } :=
      buildDuty_congr rfl rfl rfl (opened_values s) rfl rfl
    have run : (firstRun u).enter .queued = assumedRun s (dueIn s ((List.finRange 12).take k)).length u := by
      rw [assumedRun, if_neg (by simp [zero]), if_neg (by simp [up]), if_pos room]
      rfl
    rw [makeTry_of_room duty leave sound (by omega), frame, ← walked_succ hu run, sentIn_succ_of_room hu zero up room]
    exact congrArg (fun x : State => { x with queue := sentIn s ((List.finRange 12).take k) ++ [firstEntry s (k, u)] })
      (withRun_withRun _ _ (walked s k))
  · have run : (firstRun u).enter .blocked = assumedRun s (dueIn s ((List.finRange 12).take k)).length u := by
      rw [assumedRun, if_neg (by simp [zero]), if_neg (by simp [up]), if_neg room]
      rfl
    rw [makeTry_of_full duty leave sound (by omega), withRun_withRun, ← walked_succ hu run,
      sentIn_succ_of_full hu zero (Nat.le_of_not_lt room)]
    rfl

theorem expire_walked_of_due : expireIfZero (walked s k) k = walked s (k.val + 1) := by
  have timer : (u.run.assume u.profile).timer = some 0 := by
    change some (u.profile.firstDelay * 1000) = some 0
    rw [zero]
  have duty : ((withRun k { u.run.assume u.profile with timer := none } (walked s k)).duties[k]).duty =
      some { u with run := { u.run.assume u.profile with timer := none } } := withRun_duty (walked_duty hu) _
  rw [expireIfZero_of_due (walked_duty hu) rfl rfl timer]
  by_cases up : s.linkState = .up
  · have leave : Leave (withRun k { u.run.assume u.profile with timer := none } (walked s k)) k := by
      have net : (withRun k { u.run.assume u.profile with timer := none } (walked s k)).net = netAtAssume s.linkState := rfl
      exact .inl (net.trans (by rw [up]; rfl))
    rw [beginRun_of_leave duty leave (not_namesLost_of_entries (s := s) rfl), withRun_withRun, begun_eq_firstRun]
    exact makeTry_walked hu zero up
  · have down : (withRun k { u.run.assume u.profile with timer := none } (walked s k)).net = .linkDown := by
      change netAtAssume s.linkState = .linkDown
      rw [netAtAssume, if_neg (by simpa using up)]
    have run : (u.run.assume u.profile).defer .newRun = assumedRun s (dueIn s ((List.finRange 12).take k)).length u := by
      rw [assumedRun, if_neg (by simp [zero]), if_pos up]
    rw [beginRun_of_no_leave duty (not_leave_of_down down), withRun_withRun, ← walked_succ hu run, sentIn, if_neg up]
    have queue : (walked s k).queue = [] := if_neg up
    exact congrArg (fun q => { withRun k ((u.run.assume u.profile).defer .newRun) (walked s k) with queue := q }) queue

end Due

theorem expire_walked (k : Fin 12) : expireIfZero (walked s k) k = walked s (k.val + 1) := by
  by_cases due : ∃ u ∈ (s.duties[k]).duty, u.profile.firstDelay = 0
  · obtain ⟨u, hu, zero⟩ := due
    exact expire_walked_of_due hu zero
  · have late : ∀ u ∈ (s.duties[k]).duty, u.profile.firstDelay ≠ 0 := fun u hu zero => due ⟨u, hu, zero⟩
    rw [expireIfZero_of_not_due, walked_of_not_due late]
    intro x hx
    rw [walked_slot, Option.mem_def, Option.map_eq_some_iff] at hx
    obtain ⟨u, hu, rfl⟩ := hx
    have positive := late u hu
    rw [if_neg (lt_irrefl _)]
    simp [DutyRun.assume, positive]

theorem foldl_take_finRange {α : Type} (f : α → Fin 12 → α) (a : Nat → α) (step : ∀ k : Fin 12, f (a k) k = a (k.val + 1)) (n : Nat)
    (hn : n ≤ 12) : ((List.finRange 12).take n).foldl f (a 0) = a n := by
  induction n with
  | zero => rfl
  | succ n ih =>
    have lt : n < (List.finRange 12).length := by
      rw [List.length_finRange]
      exact hn
    have here : (List.finRange 12)[n]? = some ⟨n, hn⟩ := by
      rw [List.getElem?_eq_getElem lt, List.getElem_finRange]
      rfl
    rw [List.take_add_one, here, List.foldl_append, ih (Nat.le_of_succ_le hn)]
    exact step ⟨n, hn⟩

theorem expired_eq (empty : s.queue = []) : expired s = walked s 12 := by
  have walk := foldl_take_finRange expireIfZero (walked s) expire_walked 12 le_rfl
  rw [walked_zero empty] at walk
  exact walk

/-! ### O32 -/

theorem le_of_mem_drop (h : k ∈ (List.finRange 12).drop d) : d ≤ k := by
  obtain ⟨i, hi, rfl⟩ := List.mem_iff_getElem.1 h
  rw [List.getElem_drop, List.getElem_finRange]
  exact Nat.le_add_right d.val i

theorem mem_of_mem_dueIn {l : List (Fin 12)} {x : Fin 12 × Duty} (h : x ∈ dueIn s l) : x.1 ∈ l := by
  obtain ⟨e, he, hx⟩ := List.mem_filterMap.1 h
  obtain ⟨u, -, rfl⟩ := Option.map_eq_some_iff.1 hx
  exact he

/-- The duties due below `d` are those the walk passes before it. -/
theorem countP_due (d : Fin 12) :
    (dueIn s (List.finRange 12)).countP (fun x => decide (x.1 < d)) = (dueIn s ((List.finRange 12).take d)).length := by
  have split : dueIn s (List.finRange 12) = dueIn s ((List.finRange 12).take d) ++ dueIn s ((List.finRange 12).drop d) := by
    rw [dueIn, dueIn, dueIn, ← List.filterMap_append, List.take_append_drop]
  have low : (dueIn s ((List.finRange 12).take d)).countP (fun x => decide (x.1 < d)) = (dueIn s ((List.finRange 12).take d)).length :=
    List.countP_eq_length.2 fun x hx => by simpa using lt_of_mem_take (mem_of_mem_dueIn hx)
  have high : (dueIn s ((List.finRange 12).drop d)).countP (fun x => decide (x.1 < d)) = 0 :=
    List.countP_eq_zero.2 fun x hx => by simpa using le_of_mem_drop (mem_of_mem_dueIn hx)
  rw [split, List.countP_append, low, high, Nat.add_zero]

/-- A queue in which nothing flies hands its head over (R86, R98). -/
theorem startTransmit_of_fresh {q : List TxEntry} (active : s.active = true) (hq : s.queue = q) (waits : ∀ e ∈ q, e.inFlight = false) :
    startTransmit s = { s with
      queue := (q.take 1).map (fun e => { e with inFlight := true }) ++ q.drop 1
      portOut := s.portOut ++ (q.take 1).map fun e => PortRecord.frameToSend e.frame } := by
  cases q with
  | nil =>
    exact (startTransmit_of_nil s hq).trans
      (congrArg₂ (fun q out => { s with queue := q, portOut := out }) hq (List.append_nil _).symm)
  | cons e rest =>
    rw [startTransmit_of_cons active hq (by rw [hq]; exact (someInFlight_eq_false _).2 waits)]
    rfl

/-- `s` with its duties, its queue and what was sent put in place. -/
def withWork (v : Vector DutySlot 12) (q : List TxEntry) (out : List PortRecord) (s : State) : State :=
  { s with duties := v, queue := q, portOut := out }

theorem opened_eq (s : State) : opened s = { s with
    proxy := .proxy
    elapsed := 0
    hostInitiated := false
    owner := .part
    portOut := s.portOut ++ [.owner .part]
    wake := false
    stats := Stats.zero
    matchCounts := Vector.replicate 32 0
    entries := Vector.ofFn fun i : Fin 16 => (s.entries[i]).map fun e =>
      { e with
        state := match e.loaded with | .tentative => .tentative | .defended => .defended
        conflicts := 0
        tentativeTimer := match e.loaded with | .tentative => some (1000 * e.tentativeTime) | .defended => none
        contestTimer := none }
    duties := (opened s).duties
    budget := s.curve.points[0]
    spent := 0
    windowCount := 0
    stormVote := 0
    windowTimer := some 100
    lanes := Vector.replicate 8 0
    reasons := 0
    firstReason := none
    resignals := 0
    decayTimer := some (1000 * s.station.decayPeriod)
    settleTimer := if s.station.settleHold = 0 then none else some s.station.settleHold
    patienceTimer := none
    gapTimer := none
    net := if s.linkState = .up then .attached else .linkDown } := by
  have entries : mapTable (fun e => e.map AddrEntry.assume) s.entries = Vector.ofFn fun i : Fin 16 => (s.entries[i]).map fun e =>
      { e with
        state := match e.loaded with | .tentative => .tentative | .defended => .defended
        conflicts := 0
        tentativeTimer := match e.loaded with | .tentative => some (1000 * e.tentativeTime) | .defended => none
        contestTimer := none } := by
    refine Vector.ext fun i hi => ?_
    have slot : (mapTable (fun e => e.map AddrEntry.assume) s.entries)[i] = (s.entries[i]).map AddrEntry.assume :=
      getElem_mapTable (Option.map AddrEntry.assume) s.entries ⟨i, hi⟩
    rw [slot, Vector.getElem_ofFn]
    refine Option.map_congr fun e _ => ?_
    rw [Nat.mul_comm]
    rfl
  have net : netAtAssume s.linkState = if s.linkState = .up then .attached else .linkDown := by
    cases s.linkState <;> rfl
  rw [← entries, ← Curve.point_zero, ← net, Nat.mul_comm]
  rfl

/-- Settles O32. -/
theorem assume_starts_every_block : Obligations.Assume_starts_every_block := by
  intro s tag idle unread empty held ok fresh counted due sent
  have all : (List.finRange 12).take 12 = List.finRange 12 := rfl
  have queue : (walked s 12).queue = sent := by
    change sentIn s ((List.finRange 12).take 12) = sent
    rw [all]
    rfl
  have waits : ∀ e ∈ sent, e.inFlight = false := fun e he => sentIn_waits he
  have duties : (walked s 12).duties = Vector.ofFn fun d : Fin 12 => { s.duties[d] with
      duty := (s.duties[d]).duty.map fun u => { u with
        run :=
          if u.profile.firstDelay ≠ 0 then { fresh u.run with timer := some (1000 * u.profile.firstDelay) }
          else if s.linkState ≠ .up then { fresh u.run with state := .deferred, pending := some .newRun }
          else { fresh u.run with
            state := if (due.countP fun x => decide (x.1 < d)) < 8 then .queued else .blocked
            counter := counted u
            triesAllowed := u.profile.startupTries
            firstRun := false } } } := by
    refine Vector.ext fun i hi => ?_
    rw [Vector.getElem_ofFn]
    refine (walked_slot s 12 ⟨i, hi⟩).trans (congrArg (fun o => { s.duties[i] with duty := o }) (Option.map_congr fun u _ =>
      congrArg (fun r => { u with run := r }) ((if_pos hi).trans ?_)))
    rw [← countP_due]
    exact assumedRun_eq s _ u (fresh u.run) rfl
  have started := startTransmit_of_fresh (s := walked s 12) rfl queue waits
  have proxy : startProxy s = startTransmit (walked s 12) := (startProxy_eq s).trans (congrArg startTransmit (expired_eq empty))
  have code : (netAtAssume s.linkState).code = if s.linkState = .up then 0 else 1 := by
    cases s.linkState <;> rfl
  rw [exec_assume_of_idle idle unread, judgeAssume_of_ok (profileCheck_of_ok ok), code, proxy, started]
  have out := List.append_assoc s.portOut [.owner .part] (sent.take 1 |>.map fun e => PortRecord.frameToSend e.frame)
  have left := congrArg₂ (fun v out =>
    withWork v ((sent.take 1).map (fun e => { e with inFlight := true }) ++ sent.drop 1) out (opened s)) duties out
  exact congrArg (fun x : State => Host.Outcome.next { x with reply := some (okReply 0x0C tag [if s.linkState = LinkState.up then 0 else 1]) })
    (left.trans (congrArg (withWork _ _ _) (opened_eq s)))

end Sys2Proof.Machine
end

section
/-! SUPPORT. What the requests that load the profile read from a body: a field of a known layout, a byte the body may not reach, a
number clamped, the first fault in a request's order; then obligation O24. -/

namespace Sys2Proof.Machine

variable {s t : State} {b : List Byte} {tag x : Byte} {off w n : Nat}

/-! ### Fields of a known layout -/

theorem readNat_of_slice (h : slice b off w = bytesOfNat w n) (fits : n < 256 ^ w) : readNat b off w = n := by
  rw [readNat, h, natOfBytes_bytesOfNat, Nat.mod_eq_of_lt fits]

theorem readNat_bits_of_slice {k : Nat} {v : BitVec k} (h : slice b off w = bytesOfBits w v) (fits : 2 ^ k ≤ 256 ^ w) :
    readNat b off w = v.toNat := readNat_of_slice h (v.isLt.trans_le fits)

theorem readNat_byte_of_slice (h : slice b off 1 = [x]) : readNat b off 1 = x.toNat := by
  rw [readNat, h]
  exact Nat.zero_add _

theorem readNat_oneByte_of_slice (h : slice b off 1 = [oneByte n]) (fits : n < 256) : readNat b off 1 = n := by
  rw [readNat_byte_of_slice h]
  exact Nat.mod_eq_of_lt fits

theorem flagByte_ne_zero (c : Bool) : (flagByte c).toNat ≠ 0 ↔ c = true := by
  cases c <;> decide

theorem flagAt_of_slice {c : Bool} (h : slice b off 1 = [flagByte c]) : flagAt b off = c := by
  rw [flagAt, readNat_byte_of_slice h, Bool.eq_iff_iff, decide_eq_true_iff, flagByte_ne_zero]

/-! ### Bytes the body may not reach (R200) -/

theorem slice_byte {v : Byte} (h : b[off]? = some v) : slice b off 1 = [v] := by
  rw [slice, List.take_one, List.head?_drop, h]
  rfl

theorem byteAt_iff {bad : Nat → Prop} : ByteAt b off bad ↔ off < b.length ∧ bad (readNat b off 1) := by
  constructor
  · rintro ⟨v, hv, holds⟩
    obtain ⟨inside, -⟩ := List.getElem?_eq_some_iff.1 hv
    exact ⟨inside, by rwa [readNat_byte_of_slice (slice_byte hv)]⟩
  · rintro ⟨inside, holds⟩
    have hv : b[off]? = some b[off] := List.getElem?_eq_getElem inside
    exact ⟨b[off], hv, by rwa [readNat_byte_of_slice (slice_byte hv)] at holds⟩

theorem field?_byte_any_iff {f : Nat → Bool} {bad : Nat → Prop} (h : ∀ v, f v = true ↔ bad v) :
    (field? b off 1).any f = true ↔ ByteAt b off bad := by
  rw [byteAt_iff, field?]
  split
  · next inside => rw [Option.any_some, h, and_iff_right (Nat.lt_of_succ_le inside)]
  · next past => simp [show ¬off < b.length from past]

theorem badIndexAt_iff : badIndexAt b off n = true ↔ ByteAt b off (n ≤ ·) := field?_byte_any_iff fun _ => decide_eq_true_iff

theorem badOptIndexAt_iff : badOptIndexAt b off n = true ↔ OptByteAt b off (off + 1) (n ≤ ·) := by
  rw [badOptIndexAt, Bool.and_eq_true, badIndexAt_iff, field?_byte_any_iff (bad := (· ≠ 0)) fun _ => decide_eq_true_iff]
  rfl

theorem badCodeAt_iff {α : Type} {codes : Nat → Option α} {bad : Nat → Prop} (h : ∀ v, codes v = none ↔ bad v) :
    badCodeAt b off codes = true ↔ ByteAt b off bad :=
  field?_byte_any_iff fun v => by rw [Option.isNone_iff_eq_none, h]

theorem flagAt_iff_byteAt : flagAt b off = true ↔ ByteAt b off (· ≠ 0) := by
  rw [byteAt_iff, flagAt, decide_eq_true_iff]
  refine ⟨fun set => ⟨Nat.lt_of_not_le fun past => set ?_, set⟩, And.right⟩
  rw [readNat, slice, List.drop_eq_nil_of_le past]
  rfl

/-! ### The first fault in a request's order -/

theorem refuseIf_of_not {α : Type} {bad : Bool} {st : Status} {rest : Except Status α} (h : bad = false) : refuseIf bad st rest = rest := by
  rw [h]
  rfl

/-- One step of an examination and one entry of the order of faults agree. -/
theorem refuseIf_of_firstFault {α : Type} {bad : Bool} {st found : Status} {rest : Except Status α} {fault : Prop}
    {faults : List (Status × Prop)} (agree : bad = true ↔ fault) (h : FirstFault ((st, fault) :: faults) found)
    (later : ¬fault → FirstFault faults found → rest = .error found) : refuseIf bad st rest = .error found := by
  rcases h with ⟨holds, rfl⟩ | ⟨sound, h⟩
  · rw [agree.2 holds]
    rfl
  · rw [refuseIf_of_not (Bool.eq_false_iff.2 (mt agree.1 sound)), later sound h]

/-! ### Clamping (R195) -/

theorem Ranged.val_eq {raw lo hi : Nat} (h : lo ≤ hi) : Ranged.val ⟨raw, lo, hi⟩ = max lo (min hi raw) := by
  unfold Ranged.val
  dsimp only
  split
  · omega
  · split <;> omega

theorem Ranged.val_zero (raw hi : Nat) : Ranged.val ⟨raw, 0, hi⟩ = min hi raw := (Ranged.val_eq (Nat.zero_le hi)).trans (Nat.zero_max _)

theorem Ranged.out_iff {raw lo hi : Nat} : Ranged.out ⟨raw, lo, hi⟩ = true ↔ raw < lo ∨ hi < raw := by
  rw [Ranged.out, Bool.or_eq_true, decide_eq_true_iff, decide_eq_true_iff]

theorem Ranged.out_zero_iff {raw hi : Nat} : Ranged.out ⟨raw, 0, hi⟩ = true ↔ hi < raw :=
  Ranged.out_iff.trans (or_iff_right (Nat.not_lt_zero raw))

theorem laneOf_eq_clampLane (x : Byte) : laneOf x.toNat = clampLane x := Fin.ext (Nat.min_comm _ _)

/-! ### The judgement of a request's body -/

theorem verdictOf_error {α : Type} {r : Except Status α} {st : Status} {f : α → Verdict} (h : r = .error st) :
    verdictOf r [] f = .refused st [] := by
  rw [h]
  rfl

theorem verdictOf_ok {α : Type} {r : Except Status α} {a : α} {body : List Byte} {f : α → Verdict} (h : r = .ok a) :
    verdictOf r body f = f a := by
  rw [h]
  rfl

/-! ### O24 -/

theorem parseStation_record (b : List Byte) :
    (parseStation b).1 =
      { ownAddr := BitVec.ofNat 48 (readNat b 0 6)
        vlan := if readNat b 6 1 = 0 then none else some (BitVec.ofNat 12 (max 1 (min 4094 (readNat b 7 2))))
        settleHold := min 5000 (readNat b 9 2)
        contestWindow := max 1 (min 60 (readNat b 11 1))
        conflictLane := ⟨min 7 (readNat b 12 1), by omega⟩
        conflictWeight := readNat b 13 2
        wakePatience := max 5 (min 300 (readNat b 15 2))
        decayPeriod := max 1 (min 60 (readNat b 17 1))
        totalThreshold := min 524280 (readNat b 18 4) } := by
  have lane : laneOf (readNat b 12 1) = ⟨min 7 (readNat b 12 1), by omega⟩ := Fin.ext (Nat.min_comm _ _)
  have vlan : (if flagAt b 6 then some (BitVec.ofNat 12 (max 1 (min 4094 (readNat b 7 2)))) else none) =
      if readNat b 6 1 = 0 then none else some (BitVec.ofNat 12 (max 1 (min 4094 (readNat b 7 2)))) := by
    by_cases absent : readNat b 6 1 = 0 <;> simp [flagAt, absent]
  simp only [parseStation, Ranged.val_zero, Ranged.val_eq (by decide : 1 ≤ 4094), Ranged.val_eq (by decide : 1 ≤ 60),
    Ranged.val_eq (by decide : 5 ≤ 300), lane, vlan, linkAddrAt]

theorem parseStation_clamped (b : List Byte) : (parseStation b).2 = decide (
    (readNat b 6 1 ≠ 0 ∧ (readNat b 7 2 < 1 ∨ 4094 < readNat b 7 2)) ∨ 5000 < readNat b 9 2 ∨
    readNat b 11 1 < 1 ∨ 60 < readNat b 11 1 ∨ 7 < readNat b 12 1 ∨ readNat b 15 2 < 5 ∨ 300 < readNat b 15 2 ∨
    readNat b 17 1 < 1 ∨ 60 < readNat b 17 1 ∨ 524280 < readNat b 18 4) := by
  rw [Bool.eq_iff_iff, decide_eq_true_iff]
  simp only [parseStation, anyOut, List.any_cons, List.any_nil, Bool.or_eq_true, Bool.and_eq_true, Ranged.out_iff, Nat.not_lt_zero,
    flagAt, decide_eq_true_eq, Bool.false_eq_true, or_false, false_or, or_assoc]

/-- Settles O24. -/
theorem set_Station_stores_the_clamped_record : Obligations.Set_Station_stores_the_clamped_record := by
  intro s tag b idle unread size
  have run := takeRequest_of_accepts (s := s) (tag := tag) (body := b)
    (k := { kind := 0x01, accepts := inIdle, size := some 22, refusalBody := noBody
            perform := fun b s => .performed { s with station := (parseStation b).1 } (parseStation b).2 [] })
    unread (by omega) (by simp [inIdle, idle]) (by simp [size])
  dsimp only at run
  rw [parseStation_record, parseStation_clamped] at run
  exact congrArg Host.Outcome.next run

end Sys2Proof.Machine
end

section
/-! SUPPORT. The requests that load groups, lanes, the curve and the signature: what their bodies are read as, and what the requests
leave; then obligation O26. -/

namespace Sys2Proof.Machine

variable {s t : State} {b body : List Byte} {tag x : Byte} {off n : Nat} {k : RequestKind} {st : Status} {clamped : Bool}

/-! ### A request that its body decides -/

section Decided

variable (unread : s.reply = none) (long : b.length ≤ 1600) (accepts : k.accepts s.proxy = true) (size : ∀ n ∈ k.size, n = b.length)
include unread long accepts size

theorem next_of_performed (h : k.perform b s = .performed t clamped body) :
    (.next (takeRequest k (requestOf tag b) s) : Host.Outcome State Fault Refusal) =
      .next { t with reply := some { okReply k.kind tag body with clamped := clamped } } := by
  rw [takeRequest_of_accepts unread long accepts size, h]
  rfl

theorem next_of_refused (h : k.perform b s = .refused st body) :
    (.next (takeRequest k (requestOf tag b) s) : Host.Outcome State Fault Refusal) =
      .next { s with reply := some (refusal k.kind tag st body) } := by
  rw [takeRequest_of_accepts unread long accepts size, h]
  rfl

end Decided

theorem inIdle_of_idle (idle : s.proxy = .idle) : inIdle s.proxy = true := by rw [idle]; rfl

/-- An index of a table, carried in a byte, names its place. -/
theorem badIndexAt_of_slice (i : Fin n) (few : n ≤ 256) (h : slice b off 1 = [oneByte i.val]) : badIndexAt b off n = false := by
  rw [Bool.eq_false_iff, ne_eq, badIndexAt_iff, byteAt_iff, readNat_oneByte_of_slice h (i.isLt.trans_le few)]
  exact fun past => Nat.not_le.2 i.isLt past.2

theorem ofNat_readNat_of_slice [NeZero n] (i : Fin n) (few : n ≤ 256) (h : slice b off 1 = [oneByte i.val]) :
    Fin.ofNat n (readNat b off 1) = i := by
  rw [readNat_oneByte_of_slice h (i.isLt.trans_le few), Fin.ofNat_val_eq_self]

theorem ofNat_readNat_bits {k w : Nat} {v : BitVec k} (h : slice b off w = bytesOfBits w v) (fits : 2 ^ k ≤ 256 ^ w) :
    BitVec.ofNat k (readNat b off w) = v := by
  rw [readNat_bits_of_slice h fits, BitVec.ofNat_toNat, BitVec.setWidth_eq]

/-! ### Put Group (R26) -/

theorem parseGroup_groupBody (i : Fin 8) {g : GroupEntry} (fits : g.matchLen < 256) :
    parseGroup (groupBody i g) =
      .ok (i, { g with matchLen := max 1 (min 6 g.matchLen) }, decide (g.matchLen < 1 ∨ 6 < g.matchLen)) := by
  have len : readNat (groupBody i g) 8 1 = g.matchLen := readNat_oneByte_of_slice rfl fits
  have out : Ranged.out ⟨g.matchLen, 1, 6⟩ = decide (g.matchLen < 1 ∨ 6 < g.matchLen) := by
    rw [Bool.eq_iff_iff, Ranged.out_iff, decide_eq_true_iff]
  rw [parseGroup, refuseIf_of_not (badIndexAt_of_slice i (by decide) rfl), ofNat_readNat_of_slice i (by decide) rfl,
    flagAt_of_slice (c := g.inUse) rfl, linkAddrAt, ofNat_readNat_bits (v := g.addr) rfl (by decide), len]
  simp only [out, Ranged.val_eq (by decide : 1 ≤ 6)]

theorem parseGroup_of_badIndex (size : b.length = 9) (past : 8 ≤ readNat b 0 1) : parseGroup b = .error .badIndex := by
  rw [parseGroup, badIndexAt_iff.2 (byteAt_iff.2 ⟨by omega, past⟩)]
  rfl

/-! ### Set Lanes (R163) -/

theorem laneBody_length (c : LaneSetting) : (laneBody c).length = 6 := rfl

theorem lanesBody_length (v : Vector LaneSetting 8) : (lanesBody v).length = 48 := by
  rw [lanesBody, length_flatMap_of_records laneBody_length, Vector.length_toList]

theorem readNat_lanesBody (v : Vector LaneSetting 8) (j : Fin 8) {i w : Nat} (inside : i + w ≤ 6) :
    readNat (lanesBody v) (6 * j.val + i) w = readNat (laneBody v[j]) i w := by
  have whole : slice (lanesBody v) 0 48 = v.toList.flatMap laneBody := by
    rw [slice, List.drop_zero, List.take_of_length_le (lanesBody_length v).le, lanesBody]
  have record : slice (lanesBody v) (6 * j.val) 6 = laneBody v[j] := by
    have := slice_table v (b := lanesBody v) 0 6 48 laneBody_length rfl whole j
    rwa [Nat.zero_add] at this
  rw [readNat, slice_slice _ _ inside, record, readNat]

theorem any_range_eight {f : Nat → Bool} : (List.range 8).any f = true ↔ ∃ j : Fin 8, f j.val = true := by
  rw [List.any_eq_true]
  exact ⟨fun ⟨i, hi, h⟩ => ⟨⟨i, List.mem_range.1 hi⟩, h⟩, fun ⟨j, h⟩ => ⟨j.val, List.mem_range.2 j.isLt, h⟩⟩

theorem decayModeOfCode_code (m : DecayMode) : decayModeOfCode m.code.toNat = some m := by cases m <;> rfl

theorem decayModeOfCode_eq_none {v : Nat} : decayModeOfCode v = none ↔ 1 < v := by
  unfold decayModeOfCode
  split <;> simp_all
  omega

section Lanes

variable {v : Vector LaneSetting 8}

theorem readNat_lanesBody_mode (v : Vector LaneSetting 8) (j : Fin 8) : readNat (lanesBody v) (6 * j.val + 2) 1 = (v[j]).mode.code.toNat := by
  rw [readNat_lanesBody v j (by decide)]
  exact readNat_byte_of_slice rfl

theorem parseLane_lanesBody (j : Fin 8) (fits : (v[j]).threshold < 65536 ∧ (v[j]).shift < 256 ∧ (v[j]).step < 65536) :
    parseLane (lanesBody v) j.val = ({ v[j] with shift := min 16 (v[j]).shift }, decide (16 < (v[j]).shift)) := by
  obtain ⟨threshold, shift, step⟩ := fits
  have r0 : readNat (lanesBody v) (6 * j.val) 2 = (v[j]).threshold :=
    (readNat_lanesBody v j (i := 0) (by decide)).trans (readNat_of_slice rfl threshold)
  have r3 : readNat (lanesBody v) (6 * j.val + 3) 1 = (v[j]).shift :=
    (readNat_lanesBody v j (by decide)).trans (readNat_oneByte_of_slice rfl shift)
  have r4 : readNat (lanesBody v) (6 * j.val + 4) 2 = (v[j]).step :=
    (readNat_lanesBody v j (by decide)).trans (readNat_of_slice rfl step)
  have out : Ranged.out ⟨(v[j]).shift, 0, 16⟩ = decide (16 < (v[j]).shift) := by
    rw [Bool.eq_iff_iff, Ranged.out_zero_iff, decide_eq_true_iff]
  rw [parseLane, r0, readNat_lanesBody_mode, r3, r4, out, Ranged.val_zero, decayModeOfCode_code, Option.getD_some]

theorem parseLanes_lanesBody (fits : ∀ j : Fin 8, (v[j]).threshold < 65536 ∧ (v[j]).shift < 256 ∧ (v[j]).step < 65536) :
    parseLanes (lanesBody v) =
      .ok (Vector.ofFn fun j : Fin 8 => { v[j] with shift := min 16 (v[j]).shift }, decide (∃ j : Fin 8, 16 < (v[j]).shift)) := by
  have known : ((List.range 8).any fun i => (decayModeOfCode (readNat (lanesBody v) (6 * i + 2) 1)).isNone) = false := by
    rw [Bool.eq_false_iff, ne_eq, any_range_eight]
    rintro ⟨j, none⟩
    rw [readNat_lanesBody_mode, decayModeOfCode_code] at none
    cases none
  have records : (fun i : Fin 8 => (parseLane (lanesBody v) i.val).1) = fun j => { v[j] with shift := min 16 (v[j]).shift } :=
    funext fun j => congrArg Prod.fst (parseLane_lanesBody j (fits j))
  have out : ((List.range 8).any fun i => (parseLane (lanesBody v) i).2) = decide (∃ j : Fin 8, 16 < (v[j]).shift) := by
    rw [Bool.eq_iff_iff, any_range_eight, decide_eq_true_iff]
    refine exists_congr fun j => ?_
    rw [parseLane_lanesBody j (fits j), decide_eq_true_iff]
  rw [parseLanes, refuseIf_of_not known, records, out]

theorem parseLanes_of_badKind (bad : ∃ j : Fin 8, 1 < readNat b (6 * j.val + 2) 1) : parseLanes b = .error .badKind := by
  obtain ⟨j, past⟩ := bad
  rw [parseLanes, any_range_eight.2 ⟨j, Option.isNone_iff_eq_none.2 (decayModeOfCode_eq_none.2 past)⟩]
  rfl

end Lanes

/-! ### Set Curve (R150) -/

/-- The Set Curve body after its nine points. -/
def curveTail (c : Curve) (x : Byte) : List Byte := [oneByte c.ramp] ++ bytesOfNat 2 c.stormLevel ++ [x] ++ bytesOfNat 2 c.stormWeight

theorem curveBody_set (c : Curve) (x : Byte) : (curveBody c).set 12 x = c.points.toList.map oneByte ++ curveTail c x := by
  have points : (c.points.toList.map oneByte).length = 9 := by rw [List.length_map, Vector.length_toList]
  rw [curveBody, List.append_assoc, List.append_assoc, List.append_assoc, List.set_append_right _ _ (by omega), points]
  rfl

theorem curveBody_set_length (c : Curve) (x : Byte) : ((curveBody c).set 12 x).length = 15 := by
  rw [curveBody_set, List.length_append, List.length_map, Vector.length_toList]
  rfl

theorem slice_curveTail (c : Curve) (x : Byte) (i w : Nat) : slice ((curveBody c).set 12 x) (9 + i) w = slice (curveTail c x) i w := by
  rw [curveBody_set, slice_append_right _ _ _ _ (by simp)]
  simp

theorem parseCurve_curveBody {c : Curve} (x : Byte) (points : ∀ k : Fin 9, c.points[k] < 256) (ramp : c.ramp < 256)
    (level : c.stormLevel < 65536) (weight : c.stormWeight < 65536) :
    parseCurve ((curveBody c).set 12 x) =
      ({ c with ramp := max 1 c.ramp, stormLevel := min 1023 c.stormLevel, stormLane := clampLane x },
        decide (c.ramp < 1 ∨ 1023 < c.stormLevel ∨ 7 < x.toNat)) := by
  have r9 : readNat ((curveBody c).set 12 x) 9 1 = c.ramp := readNat_oneByte_of_slice (slice_curveTail c x 0 1) ramp
  have r10 : readNat ((curveBody c).set 12 x) 10 2 = c.stormLevel := readNat_of_slice (slice_curveTail c x 1 2) level
  have r12 : readNat ((curveBody c).set 12 x) 12 1 = x.toNat := readNat_byte_of_slice (slice_curveTail c x 3 1)
  have r13 : readNat ((curveBody c).set 12 x) 13 2 = c.stormWeight := readNat_of_slice (slice_curveTail c x 4 2) weight
  have read : (Vector.ofFn fun i : Fin 9 => readNat ((curveBody c).set 12 x) i.val 1) = c.points := by
    refine Vector.ext fun i hi => ?_
    rw [Vector.getElem_ofFn]
    refine readNat_oneByte_of_slice (slice_byte ?_) (points ⟨i, hi⟩)
    rw [curveBody_set, List.getElem?_append_left (by simpa using hi)]
    simp [hi]
  have steepness : max 1 (min 255 c.ramp) = max 1 c.ramp := by omega
  have out : anyOut [⟨c.ramp, 1, 255⟩, ⟨c.stormLevel, 0, 1023⟩, ⟨x.toNat, 0, 7⟩] =
      decide (c.ramp < 1 ∨ 1023 < c.stormLevel ∨ 7 < x.toNat) := by
    rw [Bool.eq_iff_iff, decide_eq_true_iff]
    simp only [anyOut, List.any_cons, List.any_nil, Bool.or_eq_true, Ranged.out_iff, Bool.false_eq_true, or_false]
    omega
  rw [parseCurve, read, r9, r10, r12, r13, out, Ranged.val_eq (by decide), steepness, Ranged.val_zero, laneOf_eq_clampLane]

/-! ### Set Signature (R136) -/

theorem parseSignature_signatureBody {g : Signature} (x : Byte) (fits : g.weight < 65536) :
    parseSignature ((signatureBody (some g)).set 8 x) = .ok (some { g with lane := clampLane x }, decide (7 < x.toNat)) := by
  have present : flagAt ((signatureBody (some g)).set 8 x) 0 = true := flagAt_of_slice (c := true) rfl
  have r8 : readNat ((signatureBody (some g)).set 8 x) 8 1 = x.toNat := readNat_byte_of_slice rfl
  have r9 : readNat ((signatureBody (some g)).set 8 x) 9 2 = g.weight := readNat_of_slice rfl fits
  have out : Ranged.out ⟨x.toNat, 0, 7⟩ = decide (7 < x.toNat) := by
    rw [Bool.eq_iff_iff, Ranged.out_zero_iff, decide_eq_true_iff]
  rw [parseSignature, present, if_neg (by decide), refuseIf_of_not (badIndexAt_of_slice g.probeDuty (by decide) rfl), linkAddrAt,
    ofNat_readNat_bits (v := g.gateway) rfl (by decide), ofNat_readNat_of_slice g.probeDuty (by decide) rfl, r8, r9]
  simp only [out, laneOf_eq_clampLane]

theorem parseSignature_of_absent (h : readNat b 0 1 = 0) : parseSignature b = .ok (none, false) := by
  rw [parseSignature, flagAt, h]
  rfl

theorem parseSignature_of_badIndex (size : b.length = 11) (present : readNat b 0 1 ≠ 0) (past : 12 ≤ readNat b 7 1) :
    parseSignature b = .error .badIndex := by
  rw [parseSignature, flagAt, decide_eq_true present, badIndexAt_iff.2 (byteAt_iff.2 ⟨by omega, past⟩)]
  rfl

/-! ### O26 -/

/-- Settles O26. -/
theorem settings_are_stored_as_carried : Obligations.Settings_are_stored_as_carried := by
  intro s tag idle unread
  have accepts := inIdle_of_idle idle
  refine ⟨⟨fun i g fits => ?group, fun b size past => ?groupIndex⟩, ⟨fun v fits => ?lanes, fun b size bad => ?laneMode⟩,
    fun c x points ramp level weight => ?curve, fun g x fits => ?signature,
    fun b size => ⟨fun absent => ?removed, fun present past => ?duty⟩⟩
  case group =>
    exact (next_of_performed unread (by simp [groupBody]) accepts (by simp [groupBody])
      (verdictOf_ok (parseGroup_groupBody i fits))).trans rfl
  case groupIndex =>
    exact next_of_refused unread (by omega) accepts (by simp [size]) (verdictOf_error (parseGroup_of_badIndex size past))
  case lanes =>
    have size := lanesBody_length v
    exact (next_of_performed unread (by omega) accepts (by simp [size]) (verdictOf_ok (parseLanes_lanesBody fits))).trans rfl
  case laneMode =>
    exact next_of_refused unread (by omega) accepts (by simp [size]) (verdictOf_error (parseLanes_of_badKind bad))
  case curve =>
    have size := curveBody_set_length c x
    have read := parseCurve_curveBody x points ramp level weight
    have run := next_of_performed (s := s) (tag := tag) (b := (curveBody c).set 12 x)
      (k := { kind := 0x09, accepts := inIdle, size := some 15, refusalBody := noBody
              perform := fun b s => .performed { s with curve := (parseCurve b).1, budget := (parseCurve b).1.points[0] }
                (parseCurve b).2 [BitVec.ofNat 8 (parseCurve b).1.points[0]] }) unread (by omega) accepts (by simp [size]) rfl
    rw [read] at run
    exact run
  case signature =>
    exact (next_of_performed unread (by simp [signatureBody]) accepts (by simp [signatureBody])
      (verdictOf_ok (parseSignature_signatureBody x fits))).trans rfl
  case removed =>
    exact (next_of_performed unread (by omega) accepts (by simp [size]) (verdictOf_ok (parseSignature_of_absent absent))).trans rfl
  case duty =>
    exact next_of_refused unread (by omega) accepts (by simp [size]) (verdictOf_error (parseSignature_of_badIndex size present past))

end Sys2Proof.Machine
end

section
/-! SUPPORT. Put Address (R47, R48): what a body is read as, and its faults in their order; then obligation O25. -/

namespace Sys2Proof.Machine

variable {s : State} {b : List Byte} {tag : Byte} {i : Fin 16} {v : NetAddr} {loaded : LoadedState} {mode : AnswerMode} {time : Nat}
  {st : Status}

/-! ### The codes -/

theorem loadedOfCode_code (l : LoadedState) : loadedOfCode l.code.toNat = some l := by cases l <;> rfl

theorem modeOfCode_code (m : AnswerMode) : modeOfCode m.code.toNat = some m := by cases m <;> rfl

theorem entryKindOfCode_code (k : AddrKind) : entryKindOfCode k.code.toNat = some (some k) := by cases k <;> rfl

theorem loadedOfCode_eq_none {c : Nat} : loadedOfCode c = none ↔ 1 < c := by
  unfold loadedOfCode
  split <;> simp_all
  omega

theorem modeOfCode_eq_none {c : Nat} : modeOfCode c = none ↔ 1 < c := by
  unfold modeOfCode
  split <;> simp_all
  omega

theorem entryKindOfCode_eq_none {c : Nat} : entryKindOfCode c = none ↔ 2 < c := by
  unfold entryKindOfCode
  split
  · simp
  · next zero =>
    unfold refKindOfCode
    split <;> simp_all
    omega

/-- A code field that the body holds with a named value is not refused. -/
theorem badCodeAt_of_read {α : Type} {codes : Nat → Option α} {off : Nat} {a : α} (h : codes (readNat b off 1) = some a) :
    badCodeAt b off codes = false := by
  rw [badCodeAt, field?]
  split
  · rw [Option.any_some, h]
    rfl
  · rfl

theorem field?_of_reached {off : Nat} (h : off < b.length) : field? b off 1 = some (readNat b off 1) := if_pos h

/-! ### A body of an entry -/

/-- The entry a Put Address stores (R47). -/
def storedEntry (v : NetAddr) (loaded : LoadedState) (mode : AnswerMode) (time : Nat) : AddrEntry :=
  { value := v, loaded := loaded, mode := mode, tentativeTime := max 1 (min 10 time),
    state := match loaded with | .tentative => .tentative | .defended => .defended,
    conflicts := 0, lastClaimant := none, tentativeTimer := none, contestTimer := none }

theorem addressBody_length (i : Fin 16) (v : NetAddr) (loaded : LoadedState) (mode : AnswerMode) (time : Nat) :
    (addressBody i v loaded mode time).length = 5 + v.bytes.length := by
  rw [addressBody, List.length_append, List.length_cons]
  rfl

theorem NetAddr.bytes_length_le (v : NetAddr) : v.bytes.length ≤ 16 := by
  cases v with
  | short a => exact (by decide : 4 ≤ 16)
  | long a => exact le_rfl

theorem addressBody_length_le (i : Fin 16) (v : NetAddr) (loaded : LoadedState) (mode : AnswerMode) (time : Nat) :
    (addressBody i v loaded mode time).length ≤ 1600 := by
  have value := v.bytes_length_le
  rw [addressBody_length]
  omega

theorem parseAddress_addressBody (fits : time < 256) :
    parseAddress (addressBody i v loaded mode time) = .ok (i, some (storedEntry v loaded mode time), decide (time < 1 ∨ 10 < time)) := by
  have kind : (field? (addressBody i v loaded mode time) 1 1).bind entryKindOfCode = some (some v.kind) := by
    rw [field?_of_reached (by rw [addressBody_length]; omega), Option.bind_some, readNat_byte_of_slice (x := v.kind.code) rfl,
      entryKindOfCode_code]
  have l : loadedOfCode (readNat (addressBody i v loaded mode time) 2 1) = some loaded := by
    rw [readNat_byte_of_slice (x := loaded.code) rfl, loadedOfCode_code]
  have m : modeOfCode (readNat (addressBody i v loaded mode time) 3 1) = some mode := by
    rw [readNat_byte_of_slice (x := mode.code) rfl, modeOfCode_code]
  have t : readNat (addressBody i v loaded mode time) 4 1 = time := readNat_oneByte_of_slice rfl fits
  have out : Ranged.out ⟨time, 1, 10⟩ = decide (time < 1 ∨ 10 < time) := by
    rw [Bool.eq_iff_iff, Ranged.out_iff, decide_eq_true_iff]
  rw [parseAddress, refuseIf_of_not (badIndexAt_of_slice i (by decide) rfl), kind]
  dsimp only
  rw [badCodeAt_of_read l, badCodeAt_of_read m, Bool.or_false, refuseIf_of_not rfl, l, m, t]
  dsimp only
  rw [out, ofNat_readNat_of_slice i (by decide) rfl, Ranged.val_eq (by decide)]
  cases v with
  | short a =>
    have value : NetAddr.short (BitVec.ofNat 32 (readNat (addressBody i (.short a) loaded mode time) 5 4)) = .short a :=
      congrArg NetAddr.short (ofNat_readNat_bits rfl (by decide))
    exact (if_neg (not_not.2 rfl)).trans (congrArg (fun v => Except.ok (i, some (storedEntry v loaded mode time), _)) value)
  | long a =>
    have value : NetAddr.long (BitVec.ofNat 128 (readNat (addressBody i (.long a) loaded mode time) 5 16)) = .long a :=
      congrArg NetAddr.long (ofNat_readNat_bits rfl (by decide))
    exact (if_neg (not_not.2 rfl)).trans (congrArg (fun v => Except.ok (i, some (storedEntry v loaded mode time), _)) value)

theorem parseAddress_of_none (i : Fin 16) (rest : List Byte) : parseAddress (oneByte i.val :: 0 :: rest) = .ok (i, none, false) := by
  have kind : (field? (oneByte i.val :: 0 :: rest) 1 1).bind entryKindOfCode = some none := by
    rw [field?_of_reached (by simp), readNat_byte_of_slice (x := 0) rfl]
    rfl
  rw [parseAddress, refuseIf_of_not (badIndexAt_of_slice i (by decide) rfl), kind, ofNat_readNat_of_slice i (by decide) rfl]

/-! ### The faults of a body -/

theorem FirstFault.eq_of_holds {fault : Prop} {first : Status} {faults : List (Status × Prop)}
    (h : FirstFault ((first, fault) :: faults) st) (holds : fault) : st = first := by
  rcases h with ⟨-, same⟩ | ⟨sound, -⟩
  · exact same
  · exact absurd holds sound

theorem FirstFault.later {fault : Prop} {first : Status} {faults : List (Status × Prop)} (h : FirstFault ((first, fault) :: faults) st)
    (sound : ¬fault) : FirstFault faults st := by
  rcases h with ⟨holds, -⟩ | ⟨-, later⟩
  · exact absurd holds sound
  · exact later

/-- A body of an entry's kind is examined for its codes and then for its length. -/
theorem parseAddress_of_fault_of_kind {kind : AddrKind} (index : badIndexAt b 0 16 = false) (reached : 1 < b.length)
    (read : readNat b 1 1 = kind.code.toNat) (h : FirstFault (addressFaults b).tail st) : parseAddress b = .error st := by
  have known : (field? b 1 1).bind entryKindOfCode = some (some kind) := by
    rw [field?_of_reached reached, Option.bind_some, read, entryKindOfCode_code]
  have present : ByteAt b 1 (· ≠ 0) := byteAt_iff.2 ⟨reached, by rw [read]; cases kind <;> decide⟩
  have named : ¬ByteAt b 1 (2 < ·) := by
    rw [byteAt_iff, read]
    cases kind <;> simp [AddrKind.code]
  have codes : (badCodeAt b 2 loadedOfCode || badCodeAt b 3 modeOfCode) = true ↔
      ByteAt b 1 (2 < ·) ∨ OptByteAt b 1 2 (1 < ·) ∨ OptByteAt b 1 3 (1 < ·) := by
    rw [Bool.or_eq_true, badCodeAt_iff fun _ => loadedOfCode_eq_none, badCodeAt_iff fun _ => modeOfCode_eq_none, or_iff_right named,
      OptByteAt, OptByteAt, and_iff_right present, and_iff_right present]
  rw [parseAddress, refuseIf_of_not index, known]
  refine refuseIf_of_firstFault codes h fun _ h => ?_
  obtain ⟨size, rfl⟩ := (or_iff_left (b := ¬_ ∧ False) fun never => never.2).1 h
  rw [byteAt_iff, byteAt_iff, read] at size
  cases kind with
  | short => exact if_pos (by simp [AddrKind.code, Nat.not_lt.2 reached] at size; exact size.2)
  | long => exact if_pos (by simp [AddrKind.code, Nat.not_lt.2 reached] at size; exact size.2)

theorem parseAddress_of_fault (h : FirstFault (addressFaults b) st) : parseAddress b = .error st := by
  by_cases bad : ByteAt b 0 (16 ≤ ·)
  · rw [h.eq_of_holds bad, parseAddress, badIndexAt_iff.2 bad]
    rfl
  have index : badIndexAt b 0 16 = false := Bool.eq_false_iff.2 (mt badIndexAt_iff.1 bad)
  replace h := h.later bad
  by_cases reached : 1 < b.length
  · by_cases named : readNat b 1 1 ≤ 2
    · have kinds : readNat b 1 1 = 0 ∨ readNat b 1 1 = 1 ∨ readNat b 1 1 = 2 := by omega
      rcases kinds with free | short | long
      · simp [FirstFault, OptByteAt, byteAt_iff, free, Nat.not_lt.2 reached] at h
      · exact parseAddress_of_fault_of_kind (kind := .short) index reached short h
      · exact parseAddress_of_fault_of_kind (kind := .long) index reached long h
    · rw [h.eq_of_holds (.inl (byteAt_iff.2 ⟨reached, Nat.lt_of_not_le named⟩)), parseAddress, refuseIf_of_not index, field?_of_reached reached,
        Option.bind_some, entryKindOfCode_eq_none.2 (Nat.lt_of_not_le named)]
      exact if_pos reached
  · have past : field? b 1 1 = none := if_neg reached
    have codes : ¬(ByteAt b 1 (2 < ·) ∨ OptByteAt b 1 2 (1 < ·) ∨ OptByteAt b 1 3 (1 < ·)) := by
      simp [OptByteAt, byteAt_iff, reached]
    rw [(h.later codes).eq_of_holds (.inl (Nat.lt_of_not_le reached)), parseAddress, refuseIf_of_not index, past]
    exact if_neg reached

/-! ### O25 -/

theorem duplicateValue_iff : duplicateValue s i v = true ↔ ∃ j : Fin 16, j ≠ i ∧ ∃ e, s.entries[j] = some e ∧ e.value = v := by
  simp only [duplicateValue, List.any_eq_true, List.mem_finRange, true_and, Bool.and_eq_true, bne_iff_ne, Option.any_eq_true,
    beq_iff_eq]

/-- Settles O25. -/
theorem put_Address_writes_one_entry : Obligations.Put_Address_writes_one_entry := by
  intro s tag idle unread
  have accepts := inIdle_of_idle idle
  refine ⟨fun i v loaded mode time fits => ⟨fun single => ?stored, fun taken => ?duplicate⟩, fun i rest short => ?freed,
    fun b short st fault => next_of_refused unread short accepts nofun (verdictOf_error (parseAddress_of_fault fault))⟩
  case stored =>
    have fresh : ¬(some (storedEntry v loaded mode time)).any (fun e => duplicateValue s i e.value) = true := by
      rw [Option.any_some, duplicateValue_iff]
      rintro ⟨j, other, e, he, same⟩
      exact single j other e he same
    exact (next_of_performed unread (by exact addressBody_length_le i v loaded mode time) accepts (by simp)
      ((verdictOf_ok (parseAddress_addressBody fits)).trans (if_neg fresh))).trans rfl
  case duplicate =>
    have held : (some (storedEntry v loaded mode time)).any (fun e => duplicateValue s i e.value) = true := by
      rw [Option.any_some, duplicateValue_iff]
      exact taken
    exact next_of_refused unread (addressBody_length_le i v loaded mode time) accepts nofun
      ((verdictOf_ok (parseAddress_addressBody fits)).trans (if_pos held))
  case freed =>
    exact (next_of_performed unread (by exact Nat.add_le_add_right short 2) accepts (by simp) (verdictOf_ok (parseAddress_of_none i rest))).trans rfl

end Sys2Proof.Machine
end

section
/-! SUPPORT. Compare items in a body (R32, R104, R200): how a list of them is written and read back, and what is stored of it. -/

namespace Sys2Proof.Machine

variable {b rest : List Byte} {n m seed off w : Nat} {c t : CompareItem} {items stored : List CompareItem}

/-! ### Writing and reading -/

/-- A compare item as its bytes carry it. -/
def CompareItem.raw (c : CompareItem) : RawItem :=
  { offset := c.offset, len := c.bytes.length, value := c.bytes.map Prod.fst, mask := c.bytes.map Prod.snd }

theorem itemBody_length (c : CompareItem) : (itemBody c).length = 3 + 2 * c.bytes.length := by
  simp only [itemBody, List.length_append, bytesOfNat_length, List.length_cons, List.length_nil, List.length_map]
  omega

theorem slice_append_drop (b : List Byte) (off w : Nat) : slice b off w ++ b.drop (off + w) = b.drop off := by
  rw [slice, ← List.drop_drop, List.take_append_drop]

theorem bytesOfNat_readNat (h : off + w ≤ b.length) : bytesOfNat w (readNat b off w) = slice b off w := by
  refine natOfBytes_inj (by rw [bytesOfNat_length, slice_length h]) ?_
  rw [natOfBytes_bytesOfNat, Nat.mod_eq_of_lt (readNat_lt b off w), readNat]

theorem oneByte_readNat (h : off + 1 ≤ b.length) : [oneByte (readNat b off 1)] = slice b off 1 := by
  rw [← bytesOfNat_readNat h]
  simp [bytesOfNat, oneByte]

theorem takeItems_append (carried : ∀ c ∈ items, c.Carried) (rest : List Byte) :
    takeItems items.length (items.flatMap itemBody ++ rest) = some (items.map CompareItem.raw, rest) := by
  induction items with
  | nil => rfl
  | cons c items ih =>
    obtain ⟨offset, count⟩ := carried c List.mem_cons_self
    have later := ih fun x hx => carried x (List.mem_cons_of_mem c hx)
    have body : (c :: items).flatMap itemBody ++ rest = itemBody c ++ (items.flatMap itemBody ++ rest) := by
      rw [List.flatMap_cons, List.append_assoc]
    have values : (c.bytes.map Prod.fst).length = c.bytes.length := List.length_map _
    have masks : (c.bytes.map Prod.snd).length = c.bytes.length := List.length_map _
    have r0 : readNat (itemBody c ++ (items.flatMap itemBody ++ rest)) 0 2 = c.offset := readNat_of_slice rfl offset
    have r2 : readNat (itemBody c ++ (items.flatMap itemBody ++ rest)) 2 1 = c.bytes.length := readNat_oneByte_of_slice rfl count
    have value : slice (itemBody c ++ (items.flatMap itemBody ++ rest)) 3 c.bytes.length = c.bytes.map Prod.fst := by
      rw [itemBody, List.append_assoc, List.append_assoc, slice_append_of_length (by simp) values]
    have mask : slice (itemBody c ++ (items.flatMap itemBody ++ rest)) (3 + c.bytes.length) c.bytes.length = c.bytes.map Prod.snd := by
      rw [itemBody, List.append_assoc, slice_append_of_length (by simp; omega) masks]
    have after : (itemBody c ++ (items.flatMap itemBody ++ rest)).drop (3 + 2 * c.bytes.length) = items.flatMap itemBody ++ rest :=
      List.drop_left' (itemBody_length c)
    have long : ¬(itemBody c ++ (items.flatMap itemBody ++ rest)).length < 3 + 2 * c.bytes.length := by
      rw [List.length_append, itemBody_length]
      omega
    have head : ¬(itemBody c ++ (items.flatMap itemBody ++ rest)).length < 3 := fun short => long (by omega)
    rw [body, List.length_cons, takeItems, if_neg head, r2]
    dsimp only
    rw [if_neg long, after, later, Option.map_some, r0, value, mask]
    rfl

/-- A byte list that items are read from is those items' bytes and what comes after them. -/
theorem exists_items_of_takeItems {raws : List RawItem} (h : takeItems n b = some (raws, rest)) :
    ∃ items : List CompareItem, items.length = n ∧ (∀ c ∈ items, c.Carried) ∧ b = items.flatMap itemBody ++ rest := by
  induction n generalizing b raws with
  | zero =>
    simp only [takeItems, Option.some.injEq, Prod.mk.injEq] at h
    exact ⟨[], rfl, nofun, h.2⟩
  | succ n ih =>
    simp only [takeItems] at h
    split at h
    · exact absurd h nofun
    · split at h
      · exact absurd h nofun
      · next long =>
        simp only [Option.map_eq_some_iff, Prod.exists, Prod.mk.injEq] at h
        obtain ⟨tail, after, taken, -, rfl⟩ := h
        obtain ⟨items, count, carried, later⟩ := ih taken
        have length := readNat_lt b 2 1
        have value : (slice b 3 (readNat b 2 1)).length = readNat b 2 1 := slice_length (by omega)
        have mask : (slice b (3 + readNat b 2 1) (readNat b 2 1)).length = readNat b 2 1 := slice_length (by omega)
        have zipped : ((slice b 3 (readNat b 2 1)).zip (slice b (3 + readNat b 2 1) (readNat b 2 1))).length = readNat b 2 1 := by
          rw [List.length_zip, value, mask, Nat.min_self]
        refine ⟨{ offset := readNat b 0 2, bytes := (slice b 3 (readNat b 2 1)).zip (slice b (3 + readNat b 2 1) (readNat b 2 1)) } :: items,
          congrArg (· + 1) count, fun x hx => ?_, ?_⟩
        · rcases List.mem_cons.1 hx with rfl | later
          · exact ⟨readNat_lt b 0 2, by rw [zipped]; exact length⟩
          · exact carried x later
        · have places : 3 + readNat b 2 1 + readNat b 2 1 = 3 + 2 * readNat b 2 1 := by omega
          rw [List.flatMap_cons, itemBody, zipped, List.map_fst_zip (by omega), List.map_snd_zip (by omega), bytesOfNat_readNat (by omega),
            oneByte_readNat (by omega), List.append_assoc, List.append_assoc, List.append_assoc, List.append_assoc, ← later, ← places,
            slice_append_drop, slice_append_drop, slice_append_drop b 2 1, slice_append_drop b 0 2, List.drop_zero]

theorem takeItems_add {raws : List RawItem} (h : takeItems (n + m) b = some (raws, rest)) :
    ∃ xs mid ys, takeItems n b = some (xs, mid) ∧ takeItems m mid = some (ys, rest) := by
  obtain ⟨items, count, carried, rfl⟩ := exists_items_of_takeItems h
  have first : (items.take n).length = n := by rw [List.length_take, count]; omega
  have second : (items.drop n).length = m := by rw [List.length_drop, count]; omega
  have split : items.flatMap itemBody ++ rest = (items.take n).flatMap itemBody ++ ((items.drop n).flatMap itemBody ++ rest) := by
    rw [← List.append_assoc, ← List.flatMap_append, List.take_append_drop]
  have before := takeItems_append (items := items.take n) (fun c hc => carried c (List.mem_of_mem_take hc)) ((items.drop n).flatMap itemBody ++ rest)
  have after := takeItems_append (items := items.drop n) (fun c hc => carried c (List.mem_of_mem_drop hc)) rest
  rw [first] at before
  rw [second] at after
  exact ⟨_, _, _, by rw [split]; exact before, after⟩

/-- A body ends after two lists of items exactly when both are read and nothing is left. -/
theorem endsAfterItems_iff : EndsAfterItems b n m ↔ ∃ xs mid ys, takeItems n b = some (xs, mid) ∧ takeItems m mid = some (ys, []) := by
  constructor
  · rintro ⟨items, count, carried, rfl⟩
    have read := takeItems_append carried []
    rw [List.append_nil, count] at read
    exact takeItems_add read
  · rintro ⟨xs, mid, ys, first, second⟩
    obtain ⟨as, na, ca, rfl⟩ := exists_items_of_takeItems first
    obtain ⟨bs, nb, cb, rfl⟩ := exists_items_of_takeItems second
    refine ⟨as ++ bs, by rw [List.length_append, na, nb], fun c hc => ?_, by rw [List.flatMap_append, List.append_nil]⟩
    exact (List.mem_append.1 hc).elim (ca c) (cb c)

/-! ### What is stored -/

theorem ItemsStored.nil : ItemsStored [] [] := ⟨rfl, nofun⟩

theorem ItemsStored.cons (first : c.StoredAs t) (later : ItemsStored items stored) : ItemsStored (c :: items) (t :: stored) where
  length := congrArg (· + 1) later.length
  each := by
    intro x hx
    rcases List.mem_cons.1 hx with rfl | hx
    · exact first
    · exact later.each x hx

theorem clampItems_of_empty {i : RawItem} (h : i.len = 0) (seed : Nat) (is : List RawItem) :
    clampItems seed (i :: is) =
      ({ offset := Ranged.val ⟨i.offset, 0, 1513⟩, bytes := [(Config.freeByte seed, Config.freeByte (seed + 1))] } ::
        (clampItems (seed + 2) is).1, (clampItems (seed + 2) is).2) := if_pos h

theorem clampItems_of_bytes {i : RawItem} (h : i.len ≠ 0) (seed : Nat) (is : List RawItem) :
    clampItems seed (i :: is) =
      ({ offset := Ranged.val ⟨i.offset, 0, 1513⟩, bytes := (i.value.zip i.mask).take 8 } :: (clampItems seed is).1,
        (clampItems seed is).2) := if_neg h

theorem CompareItem.raw_zip (c : CompareItem) : c.raw.value.zip c.raw.mask = c.bytes :=
  List.zip_map'.trans (List.map_id _)

theorem clampItems_stored (seed : Nat) (items : List CompareItem) :
    ItemsStored items (clampItems seed (items.map CompareItem.raw)).1 := by
  induction items generalizing seed with
  | nil => exact .nil
  | cons c items ih =>
    rw [List.map_cons]
    by_cases none : c.raw.len = 0
    · rw [clampItems_of_empty none]
      exact .cons ⟨Ranged.val_zero _ _, fun some => absurd (List.length_eq_zero_iff.1 none) some, fun _ => rfl⟩ (ih _)
    · rw [clampItems_of_bytes none, c.raw_zip]
      exact .cons ⟨Ranged.val_zero _ _, fun _ => rfl, fun empty => absurd (congrArg List.length empty) none⟩ (ih _)

/-- Items in range are stored as they are, and no free value is drawn. -/
theorem clampItems_of_inRange (seed : Nat) (h : ∀ c ∈ items, c.InRange) : clampItems seed (items.map CompareItem.raw) = (items, seed) := by
  induction items with
  | nil => rfl
  | cons c items ih =>
    obtain ⟨offset, some, few⟩ := h c List.mem_cons_self
    have here : CompareItem.mk (Ranged.val ⟨c.raw.offset, 0, 1513⟩) (c.bytes.take 8) = c := by
      rw [Ranged.val_zero, List.take_of_length_le few]
      exact congrArg (CompareItem.mk · c.bytes) (Nat.min_eq_right offset)
    rw [List.map_cons, clampItems_of_bytes (i := c.raw) (Nat.ne_of_gt some), ih fun x hx => h x (List.mem_cons_of_mem c hx), c.raw_zip, here]

theorem CompareItem.raw_out_iff (c : CompareItem) : c.raw.out = true ↔ ¬c.InRange := by
  have out : c.raw.out = true ↔ 1513 < c.offset ∨ c.bytes.length < 1 ∨ 8 < c.bytes.length := by
    rw [RawItem.out, anyOut]
    simp only [CompareItem.raw, List.any_cons, List.any_nil, Bool.or_eq_true, Ranged.out_iff, Nat.not_lt_zero, false_or, Bool.false_eq_true,
      or_false, Config.maxOffset]
  rw [out]
  refine ⟨fun past inside => ?_, fun outside => ?_⟩
  · obtain ⟨offset, length⟩ := inside
    omega
  · by_contra inside
    exact outside ⟨by omega, by omega⟩

/-- What is stored of an item is the item itself exactly when the item is in range. -/
theorem CompareItem.StoredAs.eq_iff (h : c.StoredAs t) : t = c ↔ c.InRange := by
  constructor
  · rintro rfl
    have some : t.bytes ≠ [] := fun empty => by simpa [empty] using h.free empty
    have few := congrArg List.length (h.bytes some)
    have offset := h.offset
    rw [List.length_take] at few
    exact ⟨by omega, List.length_pos_iff.2 some, by omega⟩
  · rintro ⟨offset, some, few⟩
    have bytes := h.bytes (List.length_pos_iff.1 some)
    rw [List.take_of_length_le few] at bytes
    exact congrArg₂ CompareItem.mk (h.offset.trans (Nat.min_eq_right offset)) bytes

theorem ItemsStored.eq_iff (h : ItemsStored items stored) : stored = items ↔ ∀ c ∈ items, c.InRange := by
  obtain ⟨length, each⟩ := h
  induction items generalizing stored with
  | nil => exact iff_of_true (List.length_eq_zero_iff.1 length) nofun
  | cons c items ih =>
    cases stored with
    | nil => cases length
    | cons t stored =>
      rw [List.cons.injEq, (each (c, t) List.mem_cons_self).eq_iff, List.forall_mem_cons,
        ih (Nat.succ.inj length) fun x hx => each x (List.mem_cons_of_mem _ hx)]

theorem ItemsStored.ne_iff (h : ItemsStored items stored) : stored ≠ items ↔ (items.map CompareItem.raw).any RawItem.out = true := by
  rw [ne_eq, h.eq_iff, List.any_map, List.any_eq_true]
  simp only [Function.comp_apply, CompareItem.raw_out_iff, not_forall, exists_prop]

end Sys2Proof.Machine
end

section
/-! SUPPORT. Put Rule (R32): what a body is read as, and its faults in their order; then obligation O27. -/

namespace Sys2Proof.Machine

variable {s : State} {b : List Byte} {tag x : Byte} {i : Fin 32} {r : Rule} {st : Status} {off n seed : Nat}

/-! ### Optional fields -/

theorem slice_head {w : Nat} {pre post : List Byte} (h : slice b off w = pre ++ post) : slice b off pre.length = pre := by
  have length : pre.length ≤ w := by
    have := congrArg List.length h
    have := length_slice_le b off w
    rw [List.length_append] at *
    omega
  have := slice_slice b off (i := 0) (n := pre.length) (w := w) (by omega)
  rw [Nat.add_zero, h] at this
  rw [this, slice, List.drop_zero, List.take_left]

section OptId

variable {id : Option (Fin n)} (h : slice b off 2 = optIdBody id)
include h

theorem flagAt_optId : flagAt b off = id.isSome := flagAt_of_slice (slice_head (pre := [_]) h)

theorem slice_optId : slice b (off + 1) 1 = [id.elim 0 fun i => oneByte i.val] := by
  rw [slice_slice b off (w := 2) (by decide), h]
  rfl

/-- An optional id carried in its two bytes is read back (R200). -/
theorem optId_of_slice [NeZero n] (few : n ≤ 256) :
    (if flagAt b off then some (Fin.ofNat n (readNat b (off + 1) 1)) else none) = id := by
  have place := slice_optId h
  rw [flagAt_optId h]
  cases id with
  | none => rfl
  | some i => exact congrArg some (ofNat_readNat_of_slice i few place)

theorem badOptIndexAt_of_slice (few : n ≤ 256) : badOptIndexAt b off n = false := by
  have place := slice_optId h
  cases id with
  | none =>
    rw [Bool.eq_false_iff, ne_eq, badOptIndexAt_iff, OptByteAt, ← flagAt_iff_byteAt, flagAt_optId h]
    exact nofun
  | some i => rw [badOptIndexAt, badIndexAt_of_slice i few place, Bool.and_false]

end OptId

theorem field?_any_ne_zero : (field? b off 1).any (fun v => decide (v ≠ 0)) = flagAt b off := by
  rw [Bool.eq_iff_iff, flagAt_iff_byteAt, field?_byte_any_iff fun _ => decide_eq_true_iff]

/-! ### The codes -/

theorem actionOfCode_code (a : Action) : actionOfCode a.code.toNat = some a := by cases a <;> rfl

theorem classOfCode_code (c : AnswerClass) : classOfCode c.code.toNat = some c := by cases c <;> rfl

theorem refKindOfCode_code (k : AddrKind) : refKindOfCode k.code.toNat = some k := by cases k <;> rfl

theorem actionOfCode_eq_none {c : Nat} : actionOfCode c = none ↔ 4 < c := by
  unfold actionOfCode
  split <;> simp_all
  omega

theorem classOfCode_eq_none {c : Nat} : classOfCode c = none ↔ 1 < c := by
  unfold classOfCode
  split <;> simp_all
  omega

theorem refKindOfCode_eq_none {c : Nat} : refKindOfCode c = none ↔ c ≠ 1 ∧ c ≠ 2 := by
  unfold refKindOfCode
  split <;> simp_all

theorem actionOfCode_eq_claim {c : Nat} : actionOfCode c = some .claim ↔ c = 3 := by
  unfold actionOfCode
  split <;> simp_all

/-! ### A body of a rule -/

/-- The Put Rule body of a rule with `x` for its lane byte. -/
def ruleBodyWith (i : Fin 32) (r : Rule) (x : Byte) : List Byte := (ruleBody i r).set 19 x

theorem ruleBodyWith_lane (i : Fin 32) (r : Rule) : ruleBodyWith i r (oneByte r.lane.val) = ruleBody i r := rfl

theorem ruleBodyWith_items (i : Fin 32) (r : Rule) (x : Byte) : (ruleBodyWith i r x).drop 23 = r.items.flatMap itemBody := rfl

theorem ruleBodyWith_length (i : Fin 32) (r : Rule) (x : Byte) :
    (ruleBodyWith i r x).length = (r.items.flatMap itemBody).length + 23 := by
  rw [ruleBodyWith, List.length_set]
  rfl

/-- The rule a Put Rule body carries, once its codes are known and its items stored. -/
def ruleRead (b : List Byte) (action : Action) (cls : AnswerClass) (stored : List CompareItem) : Rule where
  inUse := flagAt b 1
  destOwn := (readNat b 2 1).testBit 0
  destBroadcast := (readNat b 2 1).testBit 1
  groups := BitVec.ofNat 8 (readNat b 3 1)
  ethertype := if flagAt b 4 then some (BitVec.ofNat 16 (readNat b 5 2)) else none
  items := stored
  addrRef := if flagAt b 7 then (refKindOfCode (readNat b 10 1)).map fun kind => { offset := (offsetField b 8).val, kind := kind } else none
  action := action
  claimantOffset := (offsetField b 12).val
  cls := cls
  template := if flagAt b 15 then some (Fin.ofNat 48 (readNat b 16 1)) else none
  patchList := if flagAt b 17 then some (Fin.ofNat 32 (readNat b 18 1)) else none
  lane := laneOf (readNat b 19 1)
  weight := readNat b 20 2

/-- A field of a Put Rule body is out of range. -/
def ruleOut (b : List Byte) (raws : List RawItem) : Bool :=
  (flagAt b 7 && (offsetField b 8).out) || anyOut [offsetField b 12, ⟨readNat b 19 1, 0, 7⟩] || raws.any RawItem.out

/-- The codes of a Put Rule body, its address reference's when it has one, are named values. -/
def ruleCodesBad (b : List Byte) : Bool :=
  badCodeAt b 11 actionOfCode || badCodeAt b 14 classOfCode
    || ((field? b 7 1).any (fun v => decide (v ≠ 0)) && badCodeAt b 10 refKindOfCode)

/-- A body without a fault is read (R32). -/
theorem parseRule_of_reads {raws : List RawItem} {action : Action} {cls : AnswerClass}
    (index : (badIndexAt b 0 32 || badOptIndexAt b 15 48 || badOptIndexAt b 17 32) = false) (codes : ruleCodesBad b = false)
    (length : (decide (b.length < 23) || decide (4 < readNat b 22 1)) = false)
    (items : takeItems (readNat b 22 1) (b.drop 23) = some (raws, [])) (ha : actionOfCode (readNat b 11 1) = some action)
    (hc : classOfCode (readNat b 14 1) = some cls) (claim : (action == .claim && !flagAt b 7) = false) :
    parseRule seed b = .ok (Fin.ofNat 32 (readNat b 0 1), ruleRead b action cls (clampItems seed raws).1, ruleOut b raws,
      (clampItems seed raws).2) := by
  rw [parseRule, refuseIf_of_not index]
  refine (refuseIf_of_not codes).trans ?_
  rw [refuseIf_of_not length, items, ha, hc]
  exact refuseIf_of_not claim

/-- The address reference of a body. -/
theorem addrRef_of_body (i : Fin 32) (x : Byte) (fits : ∀ a ∈ r.addrRef, a.offset < 65536) :
    (if flagAt (ruleBodyWith i r x) 7 then (refKindOfCode (readNat (ruleBodyWith i r x) 10 1)).map fun kind =>
        AddrRef.mk (offsetField (ruleBodyWith i r x) 8).val kind
      else none) = r.addrRef.map fun a => { a with offset := min 1513 a.offset } := by
  have flag : flagAt (ruleBodyWith i r x) 7 = r.addrRef.isSome := flagAt_of_slice rfl
  have offset : slice (ruleBodyWith i r x) 8 2 = bytesOfNat 2 (r.addrRef.elim 0 AddrRef.offset) := rfl
  have kind : slice (ruleBodyWith i r x) 10 1 = [r.addrRef.elim 0 fun a => a.kind.code] := rfl
  rw [flag]
  cases ref : r.addrRef with
  | none => rfl
  | some a =>
    rw [ref] at offset kind
    rw [readNat_byte_of_slice kind, Option.elim_some, refKindOfCode_code, offsetField, readNat_of_slice offset (fits a ref)]
    exact congrArg (fun o => some (AddrRef.mk o a.kind)) (Ranged.val_zero _ _)

theorem ethertype_of_body (i : Fin 32) (r : Rule) (x : Byte) :
    (if flagAt (ruleBodyWith i r x) 4 then some (BitVec.ofNat 16 (readNat (ruleBodyWith i r x) 5 2)) else none) = r.ethertype := by
  have flag : flagAt (ruleBodyWith i r x) 4 = r.ethertype.isSome := flagAt_of_slice rfl
  have value : BitVec.ofNat 16 (readNat (ruleBodyWith i r x) 5 2) = r.ethertype.getD 0 := ofNat_readNat_bits rfl (by decide)
  rw [flag, value]
  cases r.ethertype <;> rfl

theorem dests_of_body (i : Fin 32) (r : Rule) (x : Byte) :
    (readNat (ruleBodyWith i r x) 2 1).testBit 0 = r.destOwn ∧ (readNat (ruleBodyWith i r x) 2 1).testBit 1 = r.destBroadcast := by
  rw [readNat_byte_of_slice (x := flagByte r.destOwn ||| (flagByte r.destBroadcast <<< 1)) rfl]
  cases r.destOwn <;> cases r.destBroadcast <;> decide

theorem ruleRead_ruleBodyWith (i : Fin 32) (x : Byte) (carried : r.Carried) (stored : List CompareItem) :
    ruleRead (ruleBodyWith i r x) r.action r.cls stored = { r.clampedWith stored with lane := clampLane x } := by
  obtain ⟨own, broadcast⟩ := dests_of_body i r x
  have inUse : flagAt (ruleBodyWith i r x) 1 = r.inUse := flagAt_of_slice rfl
  have groups : BitVec.ofNat 8 (readNat (ruleBodyWith i r x) 3 1) = r.groups := by
    rw [readNat_byte_of_slice (x := r.groups) rfl, BitVec.ofNat_toNat, BitVec.setWidth_eq]
  have claimant : (offsetField (ruleBodyWith i r x) 12).val = min 1513 r.claimantOffset := by
    rw [offsetField, readNat_of_slice (n := r.claimantOffset) rfl carried.claimantOffset]
    exact Ranged.val_zero _ _
  have lane : laneOf (readNat (ruleBodyWith i r x) 19 1) = clampLane x := by
    rw [readNat_byte_of_slice (x := x) rfl, laneOf_eq_clampLane]
  have weight : readNat (ruleBodyWith i r x) 20 2 = r.weight := readNat_of_slice rfl carried.weight
  rw [ruleRead, own, broadcast, inUse, groups, claimant, lane, weight, ethertype_of_body, addrRef_of_body i x carried.addrRef,
    optId_of_slice (id := r.template) rfl (by decide), optId_of_slice (id := r.patchList) rfl (by decide)]
  rfl

theorem or_rotate {p q v w : Prop} : (p ∨ q ∨ v) ∨ w ↔ (w ∨ p ∨ q) ∨ v := by tauto

/-- What is stored of a rule is the rule itself exactly when no field of it is out of range. -/
theorem ruleOut_iff (i : Fin 32) (x : Byte) (carried : r.Carried) {stored : List CompareItem} (items : ItemsStored r.items stored) :
    ruleOut (ruleBodyWith i r x) (r.items.map CompareItem.raw) = true ↔ r.clampedWith stored ≠ r ∨ 7 < x.toNat := by
  have flag : flagAt (ruleBodyWith i r x) 7 = r.addrRef.isSome := flagAt_of_slice rfl
  have ref : (r.addrRef.isSome && (offsetField (ruleBodyWith i r x) 8).out) = true ↔
      (r.addrRef.map fun a => { a with offset := min 1513 a.offset }) ≠ r.addrRef := by
    have offset : slice (ruleBodyWith i r x) 8 2 = bytesOfNat 2 (r.addrRef.elim 0 AddrRef.offset) := rfl
    cases ref : r.addrRef with
    | none => simp
    | some a =>
      rw [ref] at offset
      rw [offsetField, readNat_of_slice offset (carried.addrRef a ref)]
      obtain ⟨o, k⟩ := a
      simp [Ranged.out_zero_iff, Config.maxOffset]
  have claimant : (offsetField (ruleBodyWith i r x) 12).out = true ↔ min 1513 r.claimantOffset ≠ r.claimantOffset := by
    rw [offsetField, readNat_of_slice (n := r.claimantOffset) rfl carried.claimantOffset, Ranged.out_zero_iff, Config.maxOffset]
    omega
  have lane : Ranged.out ⟨readNat (ruleBodyWith i r x) 19 1, 0, 7⟩ = true ↔ 7 < x.toNat := by
    rw [readNat_byte_of_slice (x := x) rfl, Ranged.out_zero_iff]
  have clamped : r.clampedWith stored ≠ r ↔ stored ≠ r.items ∨ (r.addrRef.map fun a => { a with offset := min 1513 a.offset }) ≠ r.addrRef ∨
      min 1513 r.claimantOffset ≠ r.claimantOffset := by
    obtain ⟨⟩ := r
    simp only [Rule.clampedWith, ne_eq, Rule.mk.injEq, true_and, and_true, not_and_or]
  rw [ruleOut, flag, anyOut, clamped, items.ne_iff]
  simp only [List.any_cons, List.any_nil, Bool.or_eq_true, ref, claimant, lane, Bool.false_eq_true, or_false]
  exact or_rotate

theorem badIndices_of_body (i : Fin 32) (r : Rule) (x : Byte) : (badIndexAt (ruleBodyWith i r x) 0 32 ||
    badOptIndexAt (ruleBodyWith i r x) 15 48 || badOptIndexAt (ruleBodyWith i r x) 17 32) = false := by
  rw [badIndexAt_of_slice i (by decide) rfl, badOptIndexAt_of_slice (id := r.template) rfl (by decide),
    badOptIndexAt_of_slice (id := r.patchList) rfl (by decide), Bool.or_false, Bool.or_false]

theorem action_of_body (i : Fin 32) (r : Rule) (x : Byte) : actionOfCode (readNat (ruleBodyWith i r x) 11 1) = some r.action := by
  rw [readNat_byte_of_slice (x := r.action.code) rfl, actionOfCode_code]

theorem class_of_body (i : Fin 32) (r : Rule) (x : Byte) : classOfCode (readNat (ruleBodyWith i r x) 14 1) = some r.cls := by
  rw [readNat_byte_of_slice (x := r.cls.code) rfl, classOfCode_code]

theorem flagRef_of_body (i : Fin 32) (r : Rule) (x : Byte) : flagAt (ruleBodyWith i r x) 7 = r.addrRef.isSome := flagAt_of_slice rfl

theorem ruleCodes_of_body (i : Fin 32) (r : Rule) (x : Byte) : ruleCodesBad (ruleBodyWith i r x) = false := by
  have kind : slice (ruleBodyWith i r x) 10 1 = [r.addrRef.elim 0 fun a => a.kind.code] := rfl
  rw [ruleCodesBad, badCodeAt_of_read (action_of_body i r x), badCodeAt_of_read (class_of_body i r x), field?_any_ne_zero,
    flagRef_of_body, Bool.false_or, Bool.false_or]
  cases ref : r.addrRef with
  | none => rw [Option.isSome_none, Bool.false_and]
  | some a =>
    rw [ref] at kind
    rw [badCodeAt_of_read (a := a.kind) (by rw [readNat_byte_of_slice kind, Option.elim_some, refKindOfCode_code]), Bool.and_false]

theorem claim_of_body (i : Fin 32) (x : Byte) (carried : r.Carried) : (r.action == .claim && !flagAt (ruleBodyWith i r x) 7) = false := by
  rw [flagRef_of_body]
  by_cases is : r.action = .claim
  · simp [carried.claim is]
  · simp [is]

theorem parseRule_ruleBodyWith (carried : r.Carried) :
    parseRule seed (ruleBodyWith i r x) =
      .ok (i, { r.clampedWith (clampItems seed (r.items.map CompareItem.raw)).1 with lane := clampLane x },
        ruleOut (ruleBodyWith i r x) (r.items.map CompareItem.raw), (clampItems seed (r.items.map CompareItem.raw)).2) := by
  obtain ⟨few, items⟩ := carried.items
  have count : readNat (ruleBodyWith i r x) 22 1 = r.items.length := readNat_oneByte_of_slice rfl (few.trans_lt (by decide))
  have length : (decide ((ruleBodyWith i r x).length < 23) || decide (4 < readNat (ruleBodyWith i r x) 22 1)) = false := by
    rw [count, ruleBodyWith_length]
    simpa using few
  have taken : takeItems (readNat (ruleBodyWith i r x) 22 1) ((ruleBodyWith i r x).drop 23) = some (r.items.map CompareItem.raw, []) := by
    rw [count, ruleBodyWith_items]
    simpa using takeItems_append items []
  rw [parseRule_of_reads (badIndices_of_body i r x) (ruleCodes_of_body i r x) length taken (action_of_body i r x) (class_of_body i r x)
    (claim_of_body i x carried), ruleRead_ruleBodyWith i x carried, ofNat_readNat_of_slice i (by decide) rfl]

/-! ### The faults of a body -/

theorem ruleCodesBad_iff : ruleCodesBad b = true ↔
    ByteAt b 11 (4 < ·) ∨ ByteAt b 14 (1 < ·) ∨ OptByteAt b 7 10 (fun v => v ≠ 1 ∧ v ≠ 2) := by
  rw [ruleCodesBad, Bool.or_eq_true, Bool.or_eq_true, Bool.and_eq_true, badCodeAt_iff fun _ => actionOfCode_eq_none,
    badCodeAt_iff fun _ => classOfCode_eq_none, badCodeAt_iff fun _ => refKindOfCode_eq_none, field?_any_ne_zero, flagAt_iff_byteAt, or_assoc]
  rfl

theorem endsAfterItems_zero_iff : EndsAfterItems b n 0 ↔ ∃ raws, takeItems n b = some (raws, []) := by
  rw [endsAfterItems_iff]
  constructor
  · rintro ⟨xs, mid, ys, first, second⟩
    simp only [takeItems, Option.some.injEq, Prod.mk.injEq] at second
    exact ⟨xs, second.2 ▸ first⟩
  · rintro ⟨raws, read⟩
    exact ⟨raws, [], [], read, rfl⟩

/-- A body long enough, with named codes, whose items end it, is refused for a CLAIM without an address reference alone. -/
theorem parseRule_of_fault_of_items {raws : List RawItem} (index : ¬(badIndexAt b 0 32 || badOptIndexAt b 15 48 || badOptIndexAt b 17 32) = true)
    (codes : ¬ruleCodesBad b = true) (sized : ¬(decide (b.length < 23) || decide (4 < readNat b 22 1)) = true)
    (taken : takeItems (readNat b 22 1) (b.drop 23) = some (raws, [])) (claim : ByteAt b 11 (· = 3) ∧ ByteAt b 7 (· = 0)) :
    parseRule seed b = .error .badValue := by
  have long : 23 ≤ b.length := by simp at sized; omega
  rw [Bool.not_eq_true] at index codes sized
  obtain ⟨named, -⟩ := Bool.or_eq_false_iff.1 codes
  obtain ⟨namedAction, namedClass⟩ := Bool.or_eq_false_iff.1 named
  obtain ⟨action, ha⟩ := Option.isSome_iff_exists.1 (isSome_of_badCodeAt namedAction (by omega))
  obtain ⟨cls, hc⟩ := Option.isSome_iff_exists.1 (isSome_of_badCodeAt namedClass (by omega))
  have isClaim : action = .claim := by
    rw [actionOfCode_eq_claim.2 (byteAt_iff.1 claim.1).2] at ha
    exact (Option.some.inj ha).symm
  have absent : flagAt b 7 = false := by
    rw [flagAt, (byteAt_iff.1 claim.2).2]
    rfl
  rw [parseRule, refuseIf_of_not index]
  refine (refuseIf_of_not codes).trans ?_
  rw [refuseIf_of_not sized, taken, ha, hc, isClaim, absent]
  rfl

theorem parseRule_of_fault (h : FirstFault (ruleFaults b) st) : parseRule seed b = .error st := by
  have index : (badIndexAt b 0 32 || badOptIndexAt b 15 48 || badOptIndexAt b 17 32) = true ↔
      ByteAt b 0 (32 ≤ ·) ∨ OptByteAt b 15 16 (48 ≤ ·) ∨ OptByteAt b 17 18 (32 ≤ ·) := by
    rw [Bool.or_eq_true, Bool.or_eq_true, badIndexAt_iff, badOptIndexAt_iff, badOptIndexAt_iff, or_assoc]
  by_cases places : (badIndexAt b 0 32 || badOptIndexAt b 15 48 || badOptIndexAt b 17 32) = true
  · rw [h.eq_of_holds (index.1 places), parseRule, places]
    rfl
  replace h := h.later (mt index.2 places)
  by_cases codes : ruleCodesBad b = true
  · rw [h.eq_of_holds (ruleCodesBad_iff.1 codes), parseRule, refuseIf_of_not (Bool.not_eq_true _ ▸ places)]
    exact if_pos codes
  replace h := h.later (mt ruleCodesBad_iff.2 codes)
  by_cases sized : (decide (b.length < 23) || decide (4 < readNat b 22 1)) = true
  · have fault : b.length < 23 ∨ ByteAt b 22 (4 < ·) := by
      rw [byteAt_iff]
      simp at sized
      omega
    rw [h.eq_of_holds (fault.imp_right Or.inl), parseRule, refuseIf_of_not (Bool.not_eq_true _ ▸ places)]
    refine (refuseIf_of_not (Bool.not_eq_true _ ▸ codes)).trans ?_
    rw [sized]
    rfl
  · by_cases ends : EndsAfterItems (b.drop 23) (readNat b 22 1) 0
    · obtain ⟨raws, taken⟩ := endsAfterItems_zero_iff.1 ends
      have sound : ¬(b.length < 23 ∨ ByteAt b 22 (4 < ·) ∨ ¬EndsAfterItems (b.drop 23) (readNat b 22 1) 0) := by
        simp only [Bool.or_eq_true, decide_eq_true_iff, not_or] at sized
        rw [byteAt_iff, not_or, not_or]
        exact ⟨sized.1, fun past => sized.2 past.2, not_not.2 ends⟩
      rcases h.later sound with ⟨claim, rfl⟩ | ⟨-, never⟩
      · exact parseRule_of_fault_of_items places codes sized taken claim
      · exact never.elim
    · rw [h.eq_of_holds (.inr (.inr ends)), parseRule, refuseIf_of_not (Bool.not_eq_true _ ▸ places)]
      refine (refuseIf_of_not (Bool.not_eq_true _ ▸ codes)).trans ?_
      rw [refuseIf_of_not (Bool.not_eq_true _ ▸ sized)]
      split
      · next items taken => exact absurd (endsAfterItems_zero_iff.2 ⟨items, taken⟩) ends
      · rfl

/-! ### O27 -/

theorem items_length_le {items : List CompareItem} (h : ∀ c ∈ items, c.InRange) : (items.flatMap itemBody).length ≤ 19 * items.length := by
  induction items with
  | nil => exact le_rfl
  | cons c items ih =>
    obtain ⟨-, -, few⟩ := h c List.mem_cons_self
    have later := ih fun x hx => h x (List.mem_cons_of_mem c hx)
    rw [List.flatMap_cons, List.length_append, itemBody_length, List.length_cons]
    omega

theorem CompareItem.InRange.carried {c : CompareItem} (h : c.InRange) : c.Carried :=
  ⟨h.offset.trans_lt (by decide), h.length.2.trans_lt (by decide)⟩

theorem Rule.InRange.carried (h : r.InRange) : r.Carried where
  items := ⟨h.items.1, fun c hc => (h.items.2 c hc).carried⟩
  addrRef := fun a ha => (h.addrRef a ha).trans_lt (by decide)
  claimantOffset := h.claimantOffset.trans_lt (by decide)
  weight := Nat.lt_succ_of_le h.weight
  claim := h.claim

theorem Rule.InRange.clampedWith (h : r.InRange) : r.clampedWith r.items = r := by
  have ref : (r.addrRef.map fun a => { a with offset := min 1513 a.offset }) = r.addrRef := by
    cases hr : r.addrRef with
    | none => rfl
    | some a => exact congrArg (fun o => some (AddrRef.mk o a.kind)) (Nat.min_eq_right (h.addrRef a hr))
  have claimant : min 1513 r.claimantOffset = r.claimantOffset := Nat.min_eq_right h.claimantOffset
  rw [Rule.clampedWith, ref, claimant]

theorem clampLane_oneByte (l : Fin 8) : clampLane (oneByte l.val) = l := by
  revert l
  decide

theorem exec_putRule_of_ok {clamped : Bool} {next : Nat} (idle : s.proxy = .idle) (unread : s.reply = none) (short : b.length ≤ 1600)
    (h : parseRule s.freeCount b = .ok (i, r, clamped, next)) :
    exec (.putRule (requestOf tag b)) s = .next
      { s with
        rules := s.rules.set i r
        matchCounts := s.matchCounts.set i 0
        freeCount := next
        reply := some { okReply 0x04 tag [] with clamped := clamped } } :=
  (next_of_performed unread short (inIdle_of_idle idle) (by simp) (verdictOf_ok h)).trans rfl

/-- Settles O27. -/
theorem put_Rule_stores_the_rule : Obligations.Put_Rule_stores_the_rule := by
  intro s tag idle unread
  refine ⟨fun i r inRange => ?inRange, fun i r x carried short => ?carried,
    fun b short st fault => next_of_refused unread short (inIdle_of_idle idle) nofun (verdictOf_error (parseRule_of_fault fault))⟩
  case inRange =>
    have size := items_length_le inRange.items.2
    have few := inRange.items.1
    have length := ruleBodyWith_length i r (oneByte r.lane.val)
    have parsed := parseRule_ruleBodyWith (seed := s.freeCount) (i := i) (x := oneByte r.lane.val) inRange.carried
    rw [clampItems_of_inRange s.freeCount inRange.items.2, inRange.clampedWith, clampLane_oneByte, ruleBodyWith_lane] at parsed
    have inside : ruleOut (ruleBody i r) (r.items.map CompareItem.raw) = false := by
      have items := clampItems_stored s.freeCount r.items
      rw [clampItems_of_inRange s.freeCount inRange.items.2] at items
      rw [Bool.eq_false_iff, ne_eq, ← ruleBodyWith_lane, ruleOut_iff i _ inRange.carried items, inRange.clampedWith]
      have lane : (oneByte r.lane.val).toNat = r.lane.val := Nat.mod_eq_of_lt (r.lane.isLt.trans (by decide))
      rw [lane, not_or]
      exact ⟨not_not.2 rfl, Nat.not_lt.2 (Nat.le_of_lt_succ r.lane.isLt)⟩
    rw [inside] at parsed
    exact exec_putRule_of_ok idle unread (by rw [← ruleBodyWith_lane]; omega) parsed
  case carried =>
    have items := clampItems_stored s.freeCount r.items
    have size : (ruleBodyWith i r x).length ≤ 1600 := by
      rw [ruleBodyWith, List.length_set]
      exact short
    exact ⟨_, (clampItems s.freeCount (r.items.map CompareItem.raw)).2, ruleOut (ruleBodyWith i r x) (r.items.map CompareItem.raw),
      items, ruleOut_iff i x carried items, exec_putRule_of_ok idle unread size (parseRule_ruleBodyWith carried)⟩

end Sys2Proof.Machine
end

section
/-! SUPPORT. Put Patch List (R68, R69): what a patch record and a body are read as, and the faults of a body in their order; then
obligation O29. -/

namespace Sys2Proof.Machine

variable {s : State} {b r : List Byte} {tag : Byte} {id : Fin 32} {p : Patch} {list : List Patch} {st : Status} {off n : Nat}

/-! ### A patch record -/

theorem patchBody_length (p : Patch) : (patchBody p).length = 16 := by
  cases p with
  | fillEntry dest source => cases source <;> rfl
  | _ => rfl

/-- The range of a SUM16 does not end before it starts, once clamped (R69). -/
def Patch.Ordered : Patch → Prop
  | .sum16 start stop _ _ _ _ _ _ => min 1514 start ≤ min 1514 stop
  | _ => True

theorem pseudoOfCode_code (k : PseudoKind) : pseudoOfCode k.code.toNat = some k := by cases k <;> rfl

theorem pseudoOfCode_eq_none {c : Nat} : pseudoOfCode c = none ↔ 2 < c := by
  unfold pseudoOfCode
  split <;> simp_all
  omega

theorem patchBadKind_patchBody (p : Patch) : patchBadKind (patchBody p) = false := by
  cases p with
  | fillEntry dest source => cases source <;> rfl
  | sum16 start stop store pseudo addrA addrB protocol zeroAsOnes =>
    have kind : readNat (patchBody (.sum16 start stop store pseudo addrA addrB protocol zeroAsOnes)) 0 1 = 7 := rfl
    have code : readNat (patchBody (.sum16 start stop store pseudo addrA addrB protocol zeroAsOnes)) 7 1 = pseudo.code.toNat :=
      readNat_byte_of_slice rfl
    simp only [patchBadKind, kind, code, pseudoOfCode_code, Option.isNone_some]
  | _ => rfl

theorem patchBadIndex_patchBody (p : Patch) : patchBadIndex (patchBody p) = false := by
  cases p with
  | fillEntry dest source =>
    cases source with
    | index i =>
      have place : readNat (patchBody (.fillEntry dest (.index i))) 4 1 = i.val :=
        readNat_oneByte_of_slice rfl (i.isLt.trans (by decide))
      rw [patchBadIndex, place, decide_eq_false (Nat.not_le.2 i.isLt), Bool.and_false]
    | matched => rfl
  | _ => rfl

/-- The fields of a record, clamped. -/
theorem offsetField_val (h : slice b off 2 = bytesOfNat 2 n) (fits : n < 65536) : (offsetField b off).val = min 1513 n := by
  rw [offsetField, readNat_of_slice h fits]
  exact Ranged.val_zero _ _

theorem offsetField_out (h : slice b off 2 = bytesOfNat 2 n) (fits : n < 65536) : (offsetField b off).out = true ↔ min 1513 n ≠ n := by
  rw [offsetField, readNat_of_slice h fits, Ranged.out_zero_iff, Config.maxOffset]
  omega

theorem rangeField_val (h : slice b off 2 = bytesOfNat 2 n) (fits : n < 65536) : (rangeField b off).val = min 1514 n := by
  rw [rangeField, readNat_of_slice h fits]
  exact Ranged.val_zero _ _

theorem rangeField_out (h : slice b off 2 = bytesOfNat 2 n) (fits : n < 65536) : (rangeField b off).out = true ↔ min 1514 n ≠ n := by
  rw [rangeField, readNat_of_slice h fits, Ranged.out_zero_iff]
  omega

theorem Ranged.out_iff_ne {raw lo hi : Nat} (h : lo ≤ hi) : Ranged.out ⟨raw, lo, hi⟩ = true ↔ max lo (min hi raw) ≠ raw := by
  rw [Ranged.out_iff]
  omega

theorem anyOut_cons (x : Ranged) (l : List Ranged) : anyOut (x :: l) = true ↔ x.out = true ∨ anyOut l = true := by
  rw [anyOut, List.any_cons, Bool.or_eq_true, anyOut]

theorem anyOut_nil : ¬anyOut [] = true := nofun

theorem ofNat_readNat_byte {v : Byte} (h : slice b off 1 = [v]) : BitVec.ofNat 8 (readNat b off 1) = v := by
  rw [readNat_byte_of_slice h, BitVec.ofNat_toNat, BitVec.setWidth_eq]

theorem patchBadValue_patchBody (carried : p.Carried) (ordered : p.Ordered) : patchBadValue (patchBody p) = false := by
  cases p with
  | sum16 start stop store pseudo addrA addrB protocol zeroAsOnes =>
    obtain ⟨hstart, hstop, -⟩ := carried
    rw [patchBadValue, rangeField_val (off := 3) (n := stop) rfl hstop, rangeField_val (off := 1) (n := start) rfl hstart, decide_eq_false (Nat.not_lt.2 ordered),
      Bool.and_false]
  | fillEntry dest source => cases source <;> rfl
  | _ => rfl

theorem parsePatch_patch (carried : p.Carried) : (parsePatch (patchBody p)).1 = p.clamped := by
  cases p with
  | copy source dest count =>
    obtain ⟨hs, hd, hc⟩ := carried
    have kind : readNat (patchBody (.copy source dest count)) 0 1 = 1 := rfl
    have c : readNat (patchBody (.copy source dest count)) 5 1 = count := readNat_oneByte_of_slice rfl hc
    simp only [parsePatch, kind, c, offsetField_val (b := patchBody (.copy source dest count)) (off := 1) rfl hs,
      offsetField_val (b := patchBody (.copy source dest count)) (off := 3) rfl hd, Ranged.val_eq (by decide : 1 ≤ 64), Patch.clamped]
  | ownLink dest =>
    exact congrArg Patch.ownLink (offsetField_val rfl carried)
  | fillEntry dest source =>
    cases source with
    | index i =>
      exact congrArg₂ Patch.fillEntry (offsetField_val rfl carried) (congrArg FillSource.index (ofNat_readNat_of_slice i (by decide) rfl))
    | matched => exact congrArg (Patch.fillEntry · .matched) (offsetField_val rfl carried)
  | setMasked dest data mask =>
    have data' : BitVec.ofNat 8 (readNat (patchBody (.setMasked dest data mask)) 3 1) = data := ofNat_readNat_byte rfl
    have mask' : BitVec.ofNat 8 (readNat (patchBody (.setMasked dest data mask)) 4 1) = mask := ofNat_readNat_byte rfl
    have dest' : (offsetField (patchBody (.setMasked dest data mask)) 1).val = min 1513 dest := offsetField_val rfl carried
    exact (congrArg₂ (Patch.setMasked · · _) dest' data').trans (congrArg (Patch.setMasked _ _) mask')
  | counter dest width =>
    obtain ⟨hd, hw⟩ := carried
    have width' : Ranged.val ⟨readNat (patchBody (.counter dest width)) 3 1, 1, 4⟩ = max 1 (min 4 width) := by
      rw [readNat_oneByte_of_slice (n := width) rfl hw, Ranged.val_eq (by decide)]
    exact congrArg₂ Patch.counter (offsetField_val rfl hd) width'
  | length dest base => exact congrArg₂ Patch.length (offsetField_val rfl carried.1) (rangeField_val rfl carried.2)
  | sum16 start stop store pseudo addrA addrB protocol zeroAsOnes =>
    obtain ⟨hstart, hstop, hstore, ha, hb⟩ := carried
    have kind : readNat (patchBody (.sum16 start stop store pseudo addrA addrB protocol zeroAsOnes)) 0 1 = 7 := rfl
    have code : readNat (patchBody (.sum16 start stop store pseudo addrA addrB protocol zeroAsOnes)) 7 1 = pseudo.code.toNat :=
      readNat_byte_of_slice rfl
    simp only [parsePatch, kind, code, pseudoOfCode_code, Option.getD_some, Patch.clamped]
    rw [rangeField_val (off := 1) (n := start) rfl hstart, rangeField_val (off := 3) (n := stop) rfl hstop,
      offsetField_val (off := 5) (n := store) rfl hstore, offsetField_val (off := 8) (n := addrA) rfl ha,
      offsetField_val (off := 10) (n := addrB) rfl hb, ofNat_readNat_byte (off := 12) (v := protocol) rfl,
      flagAt_of_slice (off := 13) (c := zeroAsOnes) rfl]

theorem parsePatch_clamped (carried : p.Carried) : (parsePatch (patchBody p)).2 = true ↔ p.clamped ≠ p := by
  cases p with
  | copy source dest count =>
    obtain ⟨hs, hd, hc⟩ := carried
    change anyOut [offsetField (patchBody (.copy source dest count)) 1, offsetField (patchBody (.copy source dest count)) 3,
      ⟨readNat (patchBody (.copy source dest count)) 5 1, 1, 64⟩] = true ↔ _
    rw [readNat_oneByte_of_slice (n := count) rfl hc, anyOut_cons, anyOut_cons, anyOut_cons, or_iff_left anyOut_nil,
      offsetField_out (off := 1) (n := source) rfl hs, offsetField_out (off := 3) (n := dest) rfl hd, Ranged.out_iff_ne (by decide)]
    simp only [Patch.clamped, ne_eq, Patch.copy.injEq, not_and_or]
  | ownLink dest => exact (offsetField_out rfl carried).trans (by simp only [Patch.clamped, ne_eq, Patch.ownLink.injEq])
  | fillEntry dest source =>
    cases source with
    | index i =>
      exact (offsetField_out rfl carried).trans (by simp only [Patch.clamped, ne_eq, Patch.fillEntry.injEq, and_true])
    | matched => exact (offsetField_out rfl carried).trans (by simp only [Patch.clamped, ne_eq, Patch.fillEntry.injEq, and_true])
  | setMasked dest data mask =>
    exact (offsetField_out rfl carried).trans (by simp only [Patch.clamped, ne_eq, Patch.setMasked.injEq, and_true])
  | counter dest width =>
    obtain ⟨hd, hw⟩ := carried
    change anyOut [offsetField (patchBody (.counter dest width)) 1, ⟨readNat (patchBody (.counter dest width)) 3 1, 1, 4⟩] = true ↔ _
    rw [readNat_oneByte_of_slice (n := width) rfl hw, anyOut_cons, anyOut_cons, or_iff_left anyOut_nil,
      offsetField_out (off := 1) (n := dest) rfl hd, Ranged.out_iff_ne (by decide)]
    simp only [Patch.clamped, ne_eq, Patch.counter.injEq, not_and_or]
  | length dest base =>
    change anyOut [offsetField (patchBody (.length dest base)) 1, rangeField (patchBody (.length dest base)) 3] = true ↔ _
    rw [anyOut_cons, anyOut_cons, or_iff_left anyOut_nil, offsetField_out (off := 1) (n := dest) rfl carried.1,
      rangeField_out (off := 3) (n := base) rfl carried.2]
    simp only [Patch.clamped, ne_eq, Patch.length.injEq, not_and_or]
  | sum16 start stop store pseudo addrA addrB protocol zeroAsOnes =>
    obtain ⟨hstart, hstop, hstore, ha, hb⟩ := carried
    have kind : readNat (patchBody (.sum16 start stop store pseudo addrA addrB protocol zeroAsOnes)) 0 1 = 7 := rfl
    simp only [parsePatch, kind]
    rw [anyOut_cons, anyOut_cons, anyOut_cons, anyOut_cons, anyOut_cons, or_iff_left anyOut_nil,
      rangeField_out (off := 1) (n := start) rfl hstart, rangeField_out (off := 3) (n := stop) rfl hstop,
      offsetField_out (off := 5) (n := store) rfl hstore, offsetField_out (off := 8) (n := addrA) rfl ha,
      offsetField_out (off := 10) (n := addrB) rfl hb]
    simp only [Patch.clamped, ne_eq, Patch.sum16.injEq, not_and_or, true_and, and_true]

/-! ### A body -/

/-- The patch records of a body, as many as its count byte says (R200). -/
def recordsOf (b : List Byte) : List (List Byte) := (List.range (readNat b 2 1)).map fun i => slice b (3 + 16 * i) 16

/-- The length of a loaded list's body is not the one its count gives. -/
def patchSizeBad (b : List Byte) : Bool :=
  decide (b.length < 3) || decide (8 < readNat b 2 1) || decide (b.length ≠ 3 + 16 * readNat b 2 1)

theorem parsePatchList_of_loaded (index : badIndexAt b 0 32 = false) (long : ¬b.length < 2) (loaded : flagAt b 1 = true) :
    parsePatchList b =
      refuseIf (patchSizeBad b) .badLength (refuseIf ((recordsOf b).any patchBadKind) .badKind
        (refuseIf ((recordsOf b).any patchBadIndex) .badIndex (refuseIf ((recordsOf b).any patchBadValue) .badValue
          (.ok (Fin.ofNat 32 (readNat b 0 1), some ((recordsOf b).map fun p => (parsePatch p).1),
            (recordsOf b).any fun p => (parsePatch p).2))))) := by
  rw [parsePatchList, refuseIf_of_not index]
  dsimp only
  rw [if_neg long, loaded]
  rfl

theorem patchListBody_length (id : Fin 32) (list : List Patch) : (patchListBody id list).length = 3 + 16 * list.length := by
  rw [patchListBody, List.length_append, length_flatMap_of_records patchBody_length]
  rfl

theorem patchListBody_count (id : Fin 32) (few : list.length ≤ 8) : readNat (patchListBody id list) 2 1 = list.length :=
  readNat_oneByte_of_slice rfl (few.trans_lt (by decide))

theorem recordsOf_patchListBody (id : Fin 32) (few : list.length ≤ 8) : recordsOf (patchListBody id list) = list.map patchBody := by
  have count := patchListBody_count id few
  refine List.ext_getElem (by simp [recordsOf, count]) fun k hk _ => ?_
  have inside : k < list.length := by simpa [recordsOf, count] using hk
  have record : slice (patchListBody id list) (3 + 16 * k) 16 = patchBody list[k] := by
    rw [patchListBody, slice_append_right _ _ _ _ (Nat.le_add_right 3 _), ← slice_flatMap patchBody_length list inside]
    exact congrArg (slice _ · 16) (Nat.add_sub_cancel_left 3 _)
  rw [List.getElem_map, ← record]
  simp [recordsOf]

theorem any_map_patchBody {f : List Byte → Bool} (sound : ∀ p ∈ list, f (patchBody p) = false) : (list.map patchBody).any f = false := by
  rw [List.any_map, List.any_eq_false]
  exact fun p hp => Bool.not_eq_true _ ▸ sound p hp

theorem map_clamped_eq_iff : list.map Patch.clamped = list ↔ ∀ p ∈ list, p.clamped = p := by
  conv_lhs => rhs; rw [← List.map_id list]
  exact List.map_inj_left

theorem parsePatchList_patchListBody (id : Fin 32) (few : list.length ≤ 8) (carried : ∀ p ∈ list, p.Carried)
    (ordered : ∀ p ∈ list, p.Ordered) :
    parsePatchList (patchListBody id list) = .ok (id, some (list.map Patch.clamped), decide (list.map Patch.clamped ≠ list)) := by
  have length := patchListBody_length id list
  have index : badIndexAt (patchListBody id list) 0 32 = false := badIndexAt_of_slice id (by decide) rfl
  have loaded : flagAt (patchListBody id list) 1 = true := flagAt_of_slice (c := true) rfl
  have sized : patchSizeBad (patchListBody id list) = false := by
    rw [patchSizeBad, patchListBody_count id few, length, decide_eq_false (by omega), decide_eq_false (by omega),
      decide_eq_false (not_not.2 rfl)]
    rfl
  have read : ((list.map patchBody).map fun p => (parsePatch p).1) = list.map Patch.clamped := by
    rw [List.map_map]
    exact List.map_congr_left fun p hp => parsePatch_patch (carried p hp)
  have out : ((list.map patchBody).any fun p => (parsePatch p).2) = decide (list.map Patch.clamped ≠ list) := by
    rw [Bool.eq_iff_iff, decide_eq_true_iff, ne_eq, map_clamped_eq_iff, List.any_map, List.any_eq_true]
    simp only [not_forall, exists_prop]
    exact exists_congr fun p => and_congr_right fun hp => parsePatch_clamped (carried p hp)
  rw [parsePatchList_of_loaded index (by omega) loaded, recordsOf_patchListBody id few, refuseIf_of_not sized,
    refuseIf_of_not (any_map_patchBody fun p _ => patchBadKind_patchBody p),
    refuseIf_of_not (any_map_patchBody fun p _ => patchBadIndex_patchBody p),
    refuseIf_of_not (any_map_patchBody fun p hp => patchBadValue_patchBody (carried p hp) (ordered p hp)), read, out,
    ofNat_readNat_of_slice id (by decide) rfl]

theorem parsePatchList_of_unloaded (id : Fin 32) (rest : List Byte) :
    parsePatchList (oneByte id.val :: 0 :: rest) = .ok (id, none, false) := by
  have unloaded : flagAt (oneByte id.val :: 0 :: rest) 1 = false := flagAt_of_slice (c := false) rfl
  rw [parsePatchList, refuseIf_of_not (badIndexAt_of_slice id (by decide) rfl)]
  dsimp only
  rw [if_neg (by simp), unloaded, ofNat_readNat_of_slice id (by decide) rfl]
  rfl

/-! ### The faults of a body -/

theorem patchBadKind_iff (whole : r.length = 16) : patchBadKind r = true ↔ PatchKindBad r := by
  have faults : PatchKindBad r ↔ (readNat r 0 1 = 0 ∨ 7 < readNat r 0 1) ∨ (readNat r 0 1 = 7 ∧ 2 < readNat r 7 1) ∨
      (readNat r 0 1 = 3 ∧ 1 < readNat r 3 1) := by
    simp [PatchKindBad, byteAt_iff, whole]
  rw [faults, patchBadKind]
  split
  case h_6 entry => simp [entry]
  case h_7 sum => simp [sum, pseudoOfCode_eq_none]
  case h_8 _ h1 h2 h4 h5 h6 h3 h7 =>
    simp only [imp_false] at h1 h2 h3 h4 h5 h6 h7
    exact iff_of_true rfl (.inl (by omega))
  all_goals simp [*]

theorem patchBadIndex_iff (whole : r.length = 16) :
    patchBadIndex r = true ↔ ByteAt r 0 (· = 3) ∧ ByteAt r 3 (· = 0) ∧ ByteAt r 4 (16 ≤ ·) := by
  simp only [patchBadIndex, byteAt_iff, whole, Bool.and_eq_true, decide_eq_true_iff, and_assoc]
  simp

theorem patchBadValue_iff (whole : r.length = 16) :
    patchBadValue r = true ↔ ByteAt r 0 (· = 7) ∧ min 1514 (readNat r 3 2) < min 1514 (readNat r 1 2) := by
  simp only [patchBadValue, byteAt_iff, whole, Bool.and_eq_true, decide_eq_true_iff, rangeField, Ranged.val_zero]
  simp

theorem patchSizeBad_iff (long : ¬b.length < 2) (loaded : flagAt b 1 = true) : patchSizeBad b = true ↔
    b.length < 2 ∨ (ByteAt b 1 (· ≠ 0) ∧ (b.length < 3 ∨ 8 < readNat b 2 1 ∨ b.length ≠ 3 + 16 * readNat b 2 1)) := by
  rw [or_iff_right long, and_iff_right (flagAt_iff_byteAt.1 loaded), patchSizeBad, Bool.or_eq_true, Bool.or_eq_true, decide_eq_true_iff,
    decide_eq_true_iff, decide_eq_true_iff, or_assoc]

/-- A test of the records of a body of the right length, told as the faults tell it. -/
theorem any_records_iff {f : List Byte → Bool} {bad : List Byte → Prop} (sized : ¬patchSizeBad b = true) (loaded : flagAt b 1 = true)
    (h : ∀ r : List Byte, r.length = 16 → (f r = true ↔ bad r)) :
    (recordsOf b).any f = true ↔ ByteAt b 1 (· ≠ 0) ∧ ∃ k, k < readNat b 2 1 ∧ bad (slice b (3 + 16 * k) 16) := by
  have length : b.length = 3 + 16 * readNat b 2 1 := by
    simp only [patchSizeBad, Bool.or_eq_true, decide_eq_true_iff, not_or, not_not] at sized
    exact sized.2
  rw [and_iff_right (flagAt_iff_byteAt.1 loaded), recordsOf, List.any_map, List.any_eq_true]
  refine exists_congr fun k => ?_
  rw [List.mem_range]
  exact and_congr_right fun hk => h _ (slice_length (by omega))

theorem parsePatchList_of_fault (h : FirstFault (patchListFaults b) st) : parsePatchList b = .error st := by
  by_cases bad : ByteAt b 0 (32 ≤ ·)
  · rw [h.eq_of_holds bad, parsePatchList, badIndexAt_iff.2 bad]
    rfl
  have index : badIndexAt b 0 32 = false := Bool.eq_false_iff.2 (mt badIndexAt_iff.1 bad)
  replace h := h.later bad
  by_cases short : b.length < 2
  · rw [h.eq_of_holds (.inl short), parsePatchList, refuseIf_of_not index]
    exact if_pos short
  by_cases loaded : flagAt b 1 = true
  · rw [parsePatchList_of_loaded index short loaded]
    refine refuseIf_of_firstFault (patchSizeBad_iff short loaded) h fun sized h => ?_
    rw [← patchSizeBad_iff short loaded] at sized
    refine refuseIf_of_firstFault (any_records_iff sized loaded fun _ => patchBadKind_iff) h fun _ h => ?_
    refine refuseIf_of_firstFault (any_records_iff sized loaded fun _ => patchBadIndex_iff) h fun _ h => ?_
    exact refuseIf_of_firstFault (any_records_iff sized loaded fun _ => patchBadValue_iff) h fun _ never => never.elim
  · rw [flagAt_iff_byteAt] at loaded
    simp only [FirstFault, loaded, short, false_and, or_false, and_false] at h

/-! ### O29 -/

theorem Patch.InRange.carried (h : p.InRange) : p.Carried := by
  cases p <;> simp only [Patch.InRange, Patch.Carried] at h ⊢ <;> omega

theorem Patch.InRange.ordered (h : p.InRange) : p.Ordered := by
  cases p with
  | sum16 start stop => exact min_le_min_left 1514 h.1
  | _ => trivial

theorem Patch.InRange.clamped (h : p.InRange) : p.clamped = p := by
  cases p <;> simp only [Patch.InRange] at h <;> simp only [Patch.clamped] <;> congr 1 <;> omega

theorem exec_putPatchList_of_ok {stored : Option (List Patch)} {clamped : Bool} (idle : s.proxy = .idle) (unread : s.reply = none)
    (short : b.length ≤ 1600) (h : parsePatchList b = .ok (id, stored, clamped)) :
    exec (.putPatchList (requestOf tag b)) s = .next
      { s with
        patchLists := s.patchLists.set id stored
        reply := some { okReply 0x06 tag [] with clamped := clamped } } :=
  (next_of_performed unread short (inIdle_of_idle idle) (by simp) (verdictOf_ok h)).trans rfl

/-- Settles O29. -/
theorem put_Patch_List_stores_the_list : Obligations.Put_Patch_List_stores_the_list := by
  intro s tag idle unread
  have short : ∀ (id : Fin 32) (list : List Patch), list.length ≤ 8 → (patchListBody id list).length ≤ 1600 := by
    intro id list few
    rw [patchListBody_length]
    omega
  refine ⟨fun id list few inRange => ?inRange, fun id list few carried ordered => ?carried, fun id rest few => ?unloaded,
    fun b few st fault => next_of_refused unread few (inIdle_of_idle idle) nofun (verdictOf_error (parsePatchList_of_fault fault))⟩
  case inRange =>
    have same : list.map Patch.clamped = list := map_clamped_eq_iff.2 fun p hp => (inRange p hp).clamped
    have parsed := parsePatchList_patchListBody id few (fun p hp => (inRange p hp).carried) fun p hp => (inRange p hp).ordered
    rw [same, decide_eq_false (not_not.2 rfl)] at parsed
    exact exec_putPatchList_of_ok idle unread (short id list few) parsed
  case carried =>
    refine exec_putPatchList_of_ok idle unread (short id list few) (parsePatchList_patchListBody id few carried fun p hp => ?_)
    cases p with
    | sum16 => exact ordered _ _ _ _ _ _ _ _ hp
    | _ => trivial
  case unloaded =>
    exact exec_putPatchList_of_ok idle unread (Nat.add_le_add_right few 2) (parsePatchList_of_unloaded id rest)

end Sys2Proof.Machine
end

section
/-! SUPPORT. The parts of a Put Duty body (R103, R104, R200): where each stands, and what a failure action, a capture and a pattern are
read as. -/

namespace Sys2Proof.Machine

variable {b part : List Byte} {off w n : Nat} {x y : Byte} {d : Fin 12} {p : DutyProfile} {q : Option Pattern} {items : List CompareItem}

/-! ### Where the parts stand -/

/-- The part of a Put Duty body before its failure action. -/
def dutyHead (d : Fin 12) (p : DutyProfile) (x : Byte) : List Byte :=
  [oneByte d.val, 1, oneByte p.template.val] ++ optIdBody p.patchList ++ bytesOfNat 4 p.firstDelay ++ bytesOfNat 4 p.interval
    ++ bytesOfNat 2 p.repeatCount ++ bytesOfNat 2 p.replyWindow ++ [oneByte p.startupTries, oneByte p.runTries]
    ++ bytesOfNat 2 p.backoffBase ++ [x, oneByte p.roundsLimit]

/-- The parts of a Put Duty body with `x` for its multiplier byte and `y` for its lane byte. -/
def dutyPieces (d : Fin 12) (p : DutyProfile) (x y : Byte) : List (List Byte) :=
  [dutyHead d p x, (failureBody p.failure).set 1 y, captureBody p.capture, bytesOfBits 4 p.counterInit ++ [p.counterInc],
    patternHead p.reply, patternHead p.reject, patternItems p.reply, patternItems p.reject]

def dutyBodyWith (d : Fin 12) (p : DutyProfile) (x y : Byte) : List Byte := ((dutyBody d p).set 21 x).set 24 y

theorem failureBody_length (f : FailureAction) : (failureBody f).length = 4 := by cases f <;> rfl

theorem captureBody_length (c : Option Capture) : (captureBody c).length = 15 := by
  cases c with
  | none => rfl
  | some c => obtain ⟨offset, width, target⟩ := c; cases target <;> rfl

theorem patternHead_length (q : Option Pattern) : (patternHead q).length = 6 := by cases q <;> rfl

theorem dutyBody_eq (d : Fin 12) (p : DutyProfile) : dutyBody d p = dutyHead d p (oneByte p.backoffMul.val) ++ (failureBody p.failure ++
    (captureBody p.capture ++ ((bytesOfBits 4 p.counterInit ++ [p.counterInc]) ++ (patternHead p.reply ++ (patternHead p.reject ++
      (patternItems p.reply ++ patternItems p.reject)))))) := by
  simp only [dutyBody, dutyHead, List.append_assoc, List.cons_append, List.nil_append]

theorem dutyBodyWith_eq (d : Fin 12) (p : DutyProfile) (x y : Byte) : dutyBodyWith d p x y = (dutyPieces d p x y).flatten := by
  have head : (dutyHead d p (oneByte p.backoffMul.val)).set 21 x = dutyHead d p x := rfl
  have short : (dutyHead d p x).length = 23 := rfl
  rw [dutyBodyWith, dutyBody_eq, List.set_append_left _ _ (show 21 < (dutyHead d p (oneByte p.backoffMul.val)).length from (by decide : 21 < 23)), head,
    List.set_append_right _ _ (by rw [short]; decide), short, List.set_append_left _ _ (by rw [failureBody_length]; decide)]
  simp only [dutyPieces, List.flatten_cons, List.flatten_nil, List.append_nil]

/-- The lane byte of a failure action, 0 where it has none. -/
def failureLane : FailureAction → Byte
  | .wake lane _ => oneByte lane.val
  | .suspend => 0
  | .continueRuns => 0

/-- A body with its own multiplier and lane bytes written again is the body. -/
theorem dutyBodyWith_own (d : Fin 12) (p : DutyProfile) :
    dutyBodyWith d p (oneByte p.backoffMul.val) (failureLane p.failure) = dutyBody d p := by
  have own : (failureBody p.failure).set 1 (failureLane p.failure) = failureBody p.failure := by cases p.failure <;> rfl
  rw [dutyBodyWith_eq, dutyPieces, own, dutyBody_eq]
  simp only [List.flatten_cons, List.flatten_nil, List.append_nil]

theorem dutyPieces_lengths (d : Fin 12) (p : DutyProfile) (x y : Byte) :
    (dutyPieces d p x y).map List.length =
      [23, 4, 15, 5, 6, 6, (patternItems p.reply).length, (patternItems p.reject).length] := by
  simp only [dutyPieces, List.map_cons, List.map_nil, List.length_set, failureBody_length, captureBody_length, patternHead_length]
  rfl

theorem slice_duty (d : Fin 12) (p : DutyProfile) (x y : Byte) {i : Nat} (hi : i < 8) :
    slice (dutyBodyWith d p x y)
      (([23, 4, 15, 5, 6, 6, (patternItems p.reply).length, (patternItems p.reject).length].take i).sum)
      ([23, 4, 15, 5, 6, 6, (patternItems p.reply).length, (patternItems p.reject).length][i]) = (dutyPieces d p x y)[i] := by
  rw [dutyBodyWith_eq]
  exact slice_pieces _ (dutyPieces_lengths d p x y) hi hi

theorem slice_part (h : slice b off w = part) (i n : Nat) (inside : i + n ≤ w) : slice b (off + i) n = slice part i n := by
  rw [slice_slice b off inside, h]

theorem slice_dutyHead (d : Fin 12) (p : DutyProfile) (x y : Byte) (i n : Nat) (inside : i + n ≤ 23) :
    slice (dutyBodyWith d p x y) i n = slice (dutyHead d p x) i n := by
  have := slice_part (slice_duty d p x y (i := 0) (by decide)) i n inside
  rwa [List.take_zero, List.sum_nil, Nat.zero_add] at this

theorem slice_dutyFailure (d : Fin 12) (p : DutyProfile) (x y : Byte) :
    slice (dutyBodyWith d p x y) 23 4 = (failureBody p.failure).set 1 y := slice_duty d p x y (i := 1) (by decide)

theorem slice_dutyCapture (d : Fin 12) (p : DutyProfile) (x y : Byte) :
    slice (dutyBodyWith d p x y) 27 15 = captureBody p.capture := slice_duty d p x y (i := 2) (by decide)

theorem slice_dutyCounter (d : Fin 12) (p : DutyProfile) (x y : Byte) :
    slice (dutyBodyWith d p x y) 42 5 = bytesOfBits 4 p.counterInit ++ [p.counterInc] := slice_duty d p x y (i := 3) (by decide)

theorem slice_dutyReply (d : Fin 12) (p : DutyProfile) (x y : Byte) :
    slice (dutyBodyWith d p x y) 47 6 = patternHead p.reply := slice_duty d p x y (i := 4) (by decide)

theorem slice_dutyReject (d : Fin 12) (p : DutyProfile) (x y : Byte) :
    slice (dutyBodyWith d p x y) 53 6 = patternHead p.reject := slice_duty d p x y (i := 5) (by decide)

theorem dutyBodyWith_split (d : Fin 12) (p : DutyProfile) (x y : Byte) : ∃ front, front.length = 59 ∧
    dutyBodyWith d p x y = front ++ (patternItems p.reply ++ patternItems p.reject) := by
  refine ⟨((dutyPieces d p x y).take 6).flatten, ?_, ?_⟩
  · rw [List.length_flatten, List.map_take, dutyPieces_lengths]
    rfl
  · rw [dutyBodyWith_eq, dutyPieces]
    simp only [List.take_succ_cons, List.take_zero, List.flatten_cons, List.flatten_nil, List.append_nil, List.append_assoc]

theorem dutyBodyWith_items (d : Fin 12) (p : DutyProfile) (x y : Byte) :
    (dutyBodyWith d p x y).drop 59 = patternItems p.reply ++ patternItems p.reject := by
  obtain ⟨front, length, split⟩ := dutyBodyWith_split d p x y
  rw [split, List.drop_left' length]

theorem dutyBodyWith_length (d : Fin 12) (p : DutyProfile) (x y : Byte) :
    (dutyBodyWith d p x y).length = 59 + ((patternItems p.reply).length + (patternItems p.reject).length) := by
  obtain ⟨front, length, split⟩ := dutyBodyWith_split d p x y
  rw [split, List.length_append, List.length_append, length]

/-! ### A field with a range of delays -/

theorem delayField_val {lo : Nat} (h : slice b off 4 = bytesOfNat 4 n) (fits : n < 4294967296) (order : lo ≤ 604800) :
    (delayField b off lo).val = max lo (min 604800 n) := by
  rw [delayField, readNat_of_slice h fits]
  exact Ranged.val_eq order

theorem delayField_out {lo : Nat} (h : slice b off 4 = bytesOfNat 4 n) (fits : n < 4294967296) (order : lo ≤ 604800) :
    (delayField b off lo).out = true ↔ max lo (min 604800 n) ≠ n := by
  rw [delayField, readNat_of_slice h fits]
  exact Ranged.out_iff_ne order

/-! ### The failure action -/

/-- The failure action stored for one carried with a lane byte `y` (R103). -/
def FailureAction.stored (y : Byte) : FailureAction → FailureAction
  | .wake _ weight => .wake (clampLane y) weight
  | .suspend => .suspend
  | .continueRuns => .continueRuns

section Failure

variable {f : FailureAction} (h : slice b 23 4 = (failureBody f).set 1 y)
include h

theorem failureCode_of_slice : readNat b 23 1 ≤ 2 ∧ (readNat b 23 1 = 0 ↔ ∃ lane weight, f = .wake lane weight) := by
  have code := slice_part h 0 1 (by decide)
  cases f with
  | wake lane weight =>
    rw [readNat_byte_of_slice (x := 0) code]
    exact ⟨by decide, iff_of_true rfl ⟨lane, weight, rfl⟩⟩
  | suspend =>
    rw [readNat_byte_of_slice (x := 1) code]
    exact ⟨by decide, iff_of_false (by decide) nofun⟩
  | continueRuns =>
    rw [readNat_byte_of_slice (x := 2) code]
    exact ⟨by decide, iff_of_false (by decide) nofun⟩

theorem failureOf_of_slice (fits : ∀ lane weight, f = .wake lane weight → weight < 65536) : failureOf b = f.stored y := by
  have code := slice_part h 0 1 (by decide)
  have lane' := slice_part h 1 1 (by decide)
  have weight' := slice_part h 2 2 (by decide)
  cases f with
  | wake lane weight =>
    have kind : readNat b 23 1 = 0 := readNat_byte_of_slice (x := 0) code
    have l : readNat b 24 1 = y.toNat := readNat_byte_of_slice (x := y) lane'
    have wt : readNat b 25 2 = weight := readNat_of_slice weight' (fits lane weight rfl)
    simp only [failureOf, kind, l, wt, laneOf_eq_clampLane, FailureAction.stored]
  | suspend =>
    have kind : readNat b 23 1 = 1 := readNat_byte_of_slice (x := 1) code
    simp only [failureOf, kind, FailureAction.stored]
  | continueRuns =>
    have kind : readNat b 23 1 = 2 := readNat_byte_of_slice (x := 2) code
    simp only [failureOf, kind, FailureAction.stored]

theorem failureLane_out : (decide (readNat b 23 1 = 0) && Ranged.out ⟨readNat b 24 1, 0, 7⟩) = true ↔
    (∃ lane weight, f = .wake lane weight) ∧ 7 < y.toNat := by
  rw [Bool.and_eq_true, decide_eq_true_iff, (failureCode_of_slice h).2, Ranged.out_zero_iff]
  refine and_congr_right fun ⟨lane, weight, wake⟩ => ?_
  subst wake
  rw [readNat_byte_of_slice (x := y) (slice_part h 1 1 (by decide))]

end Failure

/-! ### The capture -/

section Capture

variable {c : Option Capture} (h : slice b 27 15 = captureBody c)
include h

theorem flagAt_capture : flagAt b 27 = c.isSome := by
  have flag := slice_part h 0 1 (by decide)
  cases c <;> exact flagAt_of_slice flag

end Capture

/-- The fields of a carried capture fit their bytes, and the combination is one R104 takes. -/
def Capture.Carried (c : Capture) : Prop :=
  c.offset < 65536 ∧ (c.width = 1 ∨ c.width = 2 ∨ c.width = 4) ∧
    ∀ n lo hi, c.target = .interval n lo hi → n < 65536 ∧ lo < 4294967296 ∧ hi < 4294967296 ∧
      max 1 (min 604800 lo) ≤ max 1 (min 604800 hi)

/-- What a body with a capture is read as there. -/
structure CaptureReads (b : List Byte) (c : Capture) : Prop where
  read : captureOf b = some c.clamped
  out : captureOut b = true ↔ c.clamped ≠ c
  target : readNat b 31 1 ≤ 1
  width : readNat b 30 1 = c.width
  order : readNat b 31 1 = 0 → (delayField b 34 1).val ≤ (delayField b 38 1).val

theorem captureReads_of_slice {c : Capture} (h : slice b 27 15 = captureBody (some c)) (carried : c.Carried) : CaptureReads b c := by
  obtain ⟨offset, width, target⟩ := c
  obtain ⟨fits, widths, intervals⟩ := carried
  have flag : flagAt b 27 = true := flagAt_capture h
  have o := offsetField_val (slice_part h 1 2 (by decide)) fits
  have oOut := offsetField_out (slice_part h 1 2 (by decide)) fits
  have w : readNat b 30 1 = width := readNat_oneByte_of_slice (slice_part h 3 1 (by decide)) (by dsimp only at widths; omega)
  have kind := slice_part h 4 1 (by decide)
  cases target with
  | interval m lo hi =>
    obtain ⟨hm, hlo, hhi, order⟩ := intervals m lo hi rfl
    have k : readNat b 31 1 = 0 := readNat_byte_of_slice (x := 0) kind
    have m' : readNat b 32 2 = m := readNat_of_slice (slice_part h 5 2 (by decide)) hm
    have loSlice : slice b 34 4 = bytesOfNat 4 lo := slice_part h 7 4 (by decide)
    have hiSlice : slice b 38 4 = bytesOfNat 4 hi := slice_part h 11 4 (by decide)
    have numerator : (numeratorField b).val = max 1 (min 256 m) := by
      rw [numeratorField, m']
      exact Ranged.val_eq (by decide)
    have numeratorOut : (numeratorField b).out = true ↔ max 1 (min 256 m) ≠ m := by
      rw [numeratorField, m']
      exact Ranged.out_iff_ne (by decide)
    have lower := delayField_val (lo := 1) loSlice hlo (by decide)
    have upper := delayField_val (lo := 1) hiSlice hhi (by decide)
    refine ⟨?_, ?_, k.trans_le (by decide), w, fun _ => by rw [lower, upper]; exact order⟩
    · rw [captureOf, flag, if_pos rfl, o, w, if_pos k, numerator, lower, upper]
      rfl
    · rw [captureOut, flag, Bool.true_and, Bool.or_eq_true, oOut, k, decide_eq_true rfl, Bool.true_and, anyOut_cons, anyOut_cons,
        anyOut_cons, or_iff_left anyOut_nil, numeratorOut, delayField_out loSlice hlo (by decide), delayField_out hiSlice hhi (by decide)]
      simp only [Capture.clamped, ne_eq, Capture.mk.injEq, CaptureTarget.interval.injEq, true_and, not_and_or]
  | counter =>
    have k : readNat b 31 1 = 1 := readNat_byte_of_slice (x := 1) kind
    refine ⟨?_, ?_, k.le, w, fun zero => absurd (k.symm.trans zero) (by decide)⟩
    · rw [captureOf, flag, if_pos rfl, o, w, if_neg (by rw [k]; decide)]
      rfl
    · rw [captureOut, flag, Bool.true_and, Bool.or_eq_true, oOut, k, decide_eq_false (by decide), Bool.false_and]
      simp only [Capture.clamped, ne_eq, Capture.mk.injEq, and_true, Bool.false_eq_true, or_false]

/-! ### The patterns -/

def itemsOf (q : Option Pattern) : List CompareItem := q.elim [] Pattern.items

theorem patternItems_eq (q : Option Pattern) : patternItems q = (itemsOf q).flatMap itemBody := by cases q <;> rfl

/-- The pattern stored for a carried one, its items stored as `items` (R104). -/
def storedPattern (q : Option Pattern) (items : List CompareItem) : Option Pattern :=
  q.map fun p => { items := items, echo := p.echo.map fun e => { offset := min 1513 e.offset, width := max 1 (min 4 e.width) } }

theorem storedPattern_stored (h : ItemsStored (itemsOf q) items) : PatternStored q (storedPattern q items) := by
  cases q with
  | none => trivial
  | some p => exact ⟨h, rfl⟩

section Pattern

variable (h : slice b off 6 = patternHead q)
include h

theorem flagAt_pattern : flagAt b off = q.isSome := by
  have flag := slice_part h 0 1 (by decide)
  cases q <;> exact flagAt_of_slice flag

theorem patternCount_of_slice (carried : ∀ p ∈ q, p.Carried) : patternCount b off = (itemsOf q).length := by
  have count := slice_part h 1 1 (by decide)
  rw [patternCount, flagAt_pattern h]
  cases q with
  | none => rfl
  | some p => exact readNat_oneByte_of_slice count ((carried p rfl).items.1.trans_lt (by decide))

theorem patternAt_of_slice (carried : ∀ p ∈ q, p.Carried) (items : List CompareItem) : patternAt b off items = storedPattern q items := by
  have echo := slice_part h 2 1 (by decide)
  have offset := slice_part h 3 2 (by decide)
  have width := slice_part h 5 1 (by decide)
  rw [patternAt, flagAt_pattern h]
  cases q with
  | none => rfl
  | some p =>
    obtain ⟨list, e⟩ := p
    have fits := (carried _ rfl).echo
    rw [flagAt_of_slice (c := e.isSome) echo]
    cases e with
    | none => rfl
    | some e =>
      obtain ⟨ho, hw⟩ := fits e rfl
      rw [offsetField_val (n := e.offset) offset ho, readNat_oneByte_of_slice (n := e.width) width hw]
      dsimp only
      rw [Ranged.val_eq (by decide)]
      rfl

theorem storedPattern_ne_iff (carried : ∀ p ∈ q, p.Carried) (stored : ItemsStored (itemsOf q) items) :
    storedPattern q items ≠ q ↔ echoOut b off = true ∨ ((itemsOf q).map CompareItem.raw).any RawItem.out = true := by
  have echo := slice_part h 2 1 (by decide)
  have offset := slice_part h 3 2 (by decide)
  have width := slice_part h 5 1 (by decide)
  rw [echoOut, flagAt_pattern h, ← stored.ne_iff]
  cases q with
  | none =>
    rw [List.length_eq_zero_iff.1 stored.length]
    exact iff_of_false (not_not.2 rfl) (fun either => either.elim nofun fun ne => ne rfl)
  | some p =>
    obtain ⟨list, e⟩ := p
    have fits := (carried _ rfl).echo
    rw [flagAt_of_slice (c := e.isSome) echo]
    cases e with
    | none => simp [storedPattern, itemsOf]
    | some e =>
      obtain ⟨ho, hw⟩ := fits e rfl
      have out : anyOut [offsetField b (off + 3), ⟨readNat b (off + 5) 1, 1, 4⟩] = true ↔
          min 1513 e.offset ≠ e.offset ∨ max 1 (min 4 e.width) ≠ e.width := by
        rw [anyOut_cons, anyOut_cons, or_iff_left anyOut_nil, offsetField_out (n := e.offset) offset ho, readNat_oneByte_of_slice (n := e.width) width hw,
          Ranged.out_iff_ne (by decide)]
      rw [Option.isSome_some, Option.isSome_some, Bool.true_and, Bool.true_and, out]
      obtain ⟨o, w⟩ := e
      simp only [storedPattern, itemsOf, Option.map_some, Option.elim_some, ne_eq, Option.some.injEq, Pattern.mk.injEq, EchoItem.mk.injEq,
        not_and_or]
      exact or_comm

end Pattern

end Sys2Proof.Machine
end

section
/-! SUPPORT. Put Duty (R103 to R105): what a body is read as, and its faults in their order; then obligation O30. -/

namespace Sys2Proof.Machine

variable {s : State} {b : List Byte} {tag x y : Byte} {d : Fin 12} {p : DutyProfile} {st : Status} {seed : Nat}

/-! ### The profile a body carries -/

/-- The profile stored for a carried one, its patterns' items stored as given (R103, R104). -/
def DutyProfile.stored (p : DutyProfile) (x y : Byte) (reply reject : List CompareItem) : DutyProfile :=
  { p.clampedWith (storedPattern p.reply reply) (storedPattern p.reject reject) with
    backoffMul := clampLane x
    failure := p.failure.stored y }

theorem DutyProfile.Carried.captured (carried : p.Carried) : ∀ c ∈ p.capture, c.Carried := carried.capture

theorem clampedWith_ne_iff (reply reject : Option Pattern) : p.clampedWith reply reject ≠ p ↔
    min 604800 p.firstDelay ≠ p.firstDelay ∨ max 1 (min 604800 p.interval) ≠ p.interval ∨ reply ≠ p.reply ∨ reject ≠ p.reject ∨
      max 10 (min 30000 p.replyWindow) ≠ p.replyWindow ∨ max 1 (min 4 p.startupTries) ≠ p.startupTries ∨
      max 1 (min 4 p.runTries) ≠ p.runTries ∨ max 1 (min 3600 p.backoffBase) ≠ p.backoffBase ∨
      min 7 p.roundsLimit ≠ p.roundsLimit ∨ p.capture.map Capture.clamped ≠ p.capture := by
  obtain ⟨⟩ := p
  simp only [DutyProfile.clampedWith, ne_eq, DutyProfile.mk.injEq, true_and, and_true, not_and_or]

/-- The two ways of telling that a duty was clamped gather the same fields. -/
theorem or_gather {a₁ a₂ a₃ a₄ a₅ a₆ a₇ a₈ lane capture replyEcho rejectEcho replyItems rejectItems : Prop} :
    (((((a₁ ∨ a₂ ∨ a₃ ∨ a₄ ∨ a₅ ∨ a₆ ∨ a₇ ∨ a₈) ∨ lane) ∨ capture) ∨ replyEcho) ∨ rejectEcho) ∨ replyItems ∨ rejectItems ↔
      (a₁ ∨ a₂ ∨ (replyEcho ∨ replyItems) ∨ (rejectEcho ∨ rejectItems) ∨ a₃ ∨ a₄ ∨ a₅ ∨ a₆ ∨ a₈ ∨ capture) ∨ a₇ ∨ lane :=
  Iff.of_eq (by ac_rfl)

section Body

variable (carried : p.Carried) (d : Fin 12) (x y : Byte)
include carried

theorem captureOf_body : captureOf (dutyBodyWith d p x y) = p.capture.map Capture.clamped := by
  have part := slice_dutyCapture d p x y
  cases capture : p.capture with
  | none =>
    have absent : flagAt (dutyBodyWith d p x y) 27 = false := by rw [flagAt_capture part, capture]; rfl
    exact if_neg (by rw [absent]; exact Bool.false_ne_true)
  | some c =>
    rw [capture] at part
    exact (captureReads_of_slice part (carried.captured c capture)).read

theorem captureOut_body : captureOut (dutyBodyWith d p x y) = true ↔ p.capture.map Capture.clamped ≠ p.capture := by
  have part := slice_dutyCapture d p x y
  cases capture : p.capture with
  | none =>
    have absent : flagAt (dutyBodyWith d p x y) 27 = false := by rw [flagAt_capture part, capture]; rfl
    rw [captureOut, absent]
    exact iff_of_false Bool.false_ne_true (not_not.2 rfl)
  | some c =>
    rw [capture] at part
    rw [(captureReads_of_slice part (carried.captured c capture)).out, Option.map_some, ne_eq, ne_eq, Option.some.injEq]

theorem dutyProfileOf_body (reply reject : List CompareItem) :
    dutyProfileOf (dutyBodyWith d p x y) reply reject = p.stored x y reply reject := by
  have template : Fin.ofNat 48 (readNat (dutyBodyWith d p x y) 2 1) = p.template :=
    ofNat_readNat_of_slice p.template (by decide) (slice_dutyHead d p x y 2 1 (by decide))
  have list : (if flagAt (dutyBodyWith d p x y) 3 then some (Fin.ofNat 32 (readNat (dutyBodyWith d p x y) (3 + 1) 1)) else none) = p.patchList :=
    optId_of_slice (slice_dutyHead d p x y 3 2 (by decide)) (by decide)
  have firstDelay := delayField_val (lo := 0) (slice_dutyHead d p x y 5 4 (by decide)) carried.firstDelay (by decide)
  have interval := delayField_val (lo := 1) (slice_dutyHead d p x y 9 4 (by decide)) carried.interval (by decide)
  have repeats : readNat (dutyBodyWith d p x y) 13 2 = p.repeatCount :=
    readNat_of_slice (slice_dutyHead d p x y 13 2 (by decide)) carried.repeatCount
  have window : readNat (dutyBodyWith d p x y) 15 2 = p.replyWindow :=
    readNat_of_slice (slice_dutyHead d p x y 15 2 (by decide)) carried.replyWindow
  have startup : readNat (dutyBodyWith d p x y) 17 1 = p.startupTries :=
    readNat_oneByte_of_slice (slice_dutyHead d p x y 17 1 (by decide)) carried.startupTries
  have run : readNat (dutyBodyWith d p x y) 18 1 = p.runTries :=
    readNat_oneByte_of_slice (slice_dutyHead d p x y 18 1 (by decide)) carried.runTries
  have base : readNat (dutyBodyWith d p x y) 19 2 = p.backoffBase :=
    readNat_of_slice (slice_dutyHead d p x y 19 2 (by decide)) carried.backoffBase
  have mul : readNat (dutyBodyWith d p x y) 21 1 = x.toNat := readNat_byte_of_slice (slice_dutyHead d p x y 21 1 (by decide))
  have rounds : readNat (dutyBodyWith d p x y) 22 1 = p.roundsLimit :=
    readNat_oneByte_of_slice (slice_dutyHead d p x y 22 1 (by decide)) carried.roundsLimit
  have counter : BitVec.ofNat 32 (readNat (dutyBodyWith d p x y) 42 4) = p.counterInit :=
    ofNat_readNat_bits (slice_part (slice_dutyCounter d p x y) 0 4 (by decide)) (by decide)
  have inc : BitVec.ofNat 8 (readNat (dutyBodyWith d p x y) 46 1) = p.counterInc :=
    ofNat_readNat_byte (slice_part (slice_dutyCounter d p x y) 4 1 (by decide))
  rw [dutyProfileOf, template, list, firstDelay, interval, repeats, window, startup, run, base, mul, rounds, counter, inc,
    captureOf_body carried, failureOf_of_slice (slice_dutyFailure d p x y) fun lane w wake => carried.weight lane w wake,
    patternAt_of_slice (slice_dutyReply d p x y) carried.reply, patternAt_of_slice (slice_dutyReject d p x y) carried.reject,
    Ranged.val_eq (by decide), Ranged.val_eq (by decide), Ranged.val_eq (by decide), Ranged.val_eq (by decide), Ranged.val_zero,
    laneOf_eq_clampLane, Nat.zero_max]
  rfl

/-- A numeric field before the failure action is out of range. -/
theorem dutyFields_out : anyOut [delayField (dutyBodyWith d p x y) 5 0, delayField (dutyBodyWith d p x y) 9 1,
      ⟨readNat (dutyBodyWith d p x y) 15 2, 10, 30000⟩, ⟨readNat (dutyBodyWith d p x y) 17 1, 1, 4⟩,
      ⟨readNat (dutyBodyWith d p x y) 18 1, 1, 4⟩, ⟨readNat (dutyBodyWith d p x y) 19 2, 1, 3600⟩,
      ⟨readNat (dutyBodyWith d p x y) 21 1, 0, 7⟩, ⟨readNat (dutyBodyWith d p x y) 22 1, 0, 7⟩] = true ↔
    min 604800 p.firstDelay ≠ p.firstDelay ∨ max 1 (min 604800 p.interval) ≠ p.interval ∨
      max 10 (min 30000 p.replyWindow) ≠ p.replyWindow ∨ max 1 (min 4 p.startupTries) ≠ p.startupTries ∨
      max 1 (min 4 p.runTries) ≠ p.runTries ∨ max 1 (min 3600 p.backoffBase) ≠ p.backoffBase ∨ 7 < x.toNat ∨
      min 7 p.roundsLimit ≠ p.roundsLimit := by
  have firstDelay := delayField_out (lo := 0) (slice_dutyHead d p x y 5 4 (by decide)) carried.firstDelay (by decide)
  have interval := delayField_out (lo := 1) (slice_dutyHead d p x y 9 4 (by decide)) carried.interval (by decide)
  have window : readNat (dutyBodyWith d p x y) 15 2 = p.replyWindow :=
    readNat_of_slice (slice_dutyHead d p x y 15 2 (by decide)) carried.replyWindow
  have startup : readNat (dutyBodyWith d p x y) 17 1 = p.startupTries :=
    readNat_oneByte_of_slice (slice_dutyHead d p x y 17 1 (by decide)) carried.startupTries
  have run : readNat (dutyBodyWith d p x y) 18 1 = p.runTries :=
    readNat_oneByte_of_slice (slice_dutyHead d p x y 18 1 (by decide)) carried.runTries
  have base : readNat (dutyBodyWith d p x y) 19 2 = p.backoffBase :=
    readNat_of_slice (slice_dutyHead d p x y 19 2 (by decide)) carried.backoffBase
  have mul : readNat (dutyBodyWith d p x y) 21 1 = x.toNat := readNat_byte_of_slice (slice_dutyHead d p x y 21 1 (by decide))
  have rounds : readNat (dutyBodyWith d p x y) 22 1 = p.roundsLimit :=
    readNat_oneByte_of_slice (slice_dutyHead d p x y 22 1 (by decide)) carried.roundsLimit
  rw [window, startup, run, base, mul, rounds]
  simp only [anyOut_cons, anyOut_nil, Bool.false_eq_true, or_false, firstDelay, interval, Ranged.out_zero_iff, Ranged.out_iff_ne (by decide : 10 ≤ 30000),
    Ranged.out_iff_ne (by decide : 1 ≤ 4), Ranged.out_iff_ne (by decide : 1 ≤ 3600), Nat.zero_max]
  rw [show min 7 p.roundsLimit ≠ p.roundsLimit ↔ 7 < p.roundsLimit by omega]

theorem dutyOut_body {reply reject : List CompareItem} (hreply : ItemsStored (itemsOf p.reply) reply)
    (hreject : ItemsStored (itemsOf p.reject) reject) :
    (dutyOut (dutyBodyWith d p x y) || ((itemsOf p.reply).map CompareItem.raw).any RawItem.out ||
        ((itemsOf p.reject).map CompareItem.raw).any RawItem.out) = true ↔
      p.clampedWith (storedPattern p.reply reply) (storedPattern p.reject reject) ≠ p ∨ 7 < x.toNat ∨
        ((∃ lane weight, p.failure = .wake lane weight) ∧ 7 < y.toNat) := by
  rw [dutyOut, clampedWith_ne_iff, storedPattern_ne_iff (slice_dutyReply d p x y) carried.reply hreply,
    storedPattern_ne_iff (slice_dutyReject d p x y) carried.reject hreject, ← failureLane_out (slice_dutyFailure d p x y),
    ← captureOut_body carried d x y]
  simp only [Bool.or_eq_true, dutyFields_out carried]
  rw [or_assoc (c := List.any _ _ = true)]
  exact or_gather

theorem dutyBadValue_body : dutyBadValue (dutyBodyWith d p x y) = false := by
  have part := slice_dutyCapture d p x y
  rw [dutyBadValue, flagAt_pattern (slice_dutyReply d p x y), flagAt_pattern (slice_dutyReject d p x y), flagAt_capture part]
  have needs : (!p.reply.isSome && (p.reject.isSome || p.capture.isSome)) = false := by
    by_cases some : p.reply.isSome = true
    · rw [some]; rfl
    · have none := mt carried.needs_reply some
      rw [← Bool.or_eq_true, Bool.not_eq_true] at none
      rw [none, Bool.and_false]
  rw [needs, Bool.false_or]
  cases capture : p.capture with
  | none => rfl
  | some c =>
    rw [capture] at part
    have reads := captureReads_of_slice part (carried.captured c capture)
    obtain ⟨-, widths, -⟩ := carried.captured c capture
    have width : (decide (c.width = 1) || decide (c.width = 2) || decide (c.width = 4)) = true := by
      rw [Bool.or_eq_true, Bool.or_eq_true, decide_eq_true_iff, decide_eq_true_iff, decide_eq_true_iff, or_assoc]
      exact widths
    rw [reads.width, width, Bool.not_true, Bool.false_or, Option.isSome_some, Bool.true_and, Bool.and_eq_false_iff, decide_eq_false_iff_not,
      decide_eq_false_iff_not, Nat.not_lt]
    exact not_or_of_imp reads.order

end Body

/-! ### The examination of a body -/

theorem failureOfCode_eq_none {c : Nat} : failureOfCode c = none ↔ 2 < c := by
  unfold failureOfCode
  split <;> simp_all
  omega

theorem targetOfCode_eq_none {c : Nat} : targetOfCode c = none ↔ 1 < c := by
  unfold targetOfCode
  split <;> simp_all
  omega

/-- The codes of a Put Duty body, its capture's when it has one, are named values. -/
def dutyCodesBad (b : List Byte) : Bool :=
  badCodeAt b 23 failureOfCode || ((field? b 27 1).any (fun v => decide (v ≠ 0)) && badCodeAt b 31 targetOfCode)

/-- A Put Duty body is too short, or a pattern calls for too many items. -/
def dutySizeBad (b : List Byte) : Bool := decide (b.length < 59) || decide (4 < patternCount b 47) || decide (4 < patternCount b 53)

/-- The order in which a body with the in-use flag set is examined (R104). -/
theorem parseDuty_of_used (seed : Nat) (index : badIndexAt b 0 12 = false) (long : ¬b.length < 2) (used : flagAt b 1 = true) :
    ∃ rest : Except Status (Fin 12 × Option Duty × Bool × Nat),
      parseDuty seed b = refuseIf (badIndexAt b 2 48 || badOptIndexAt b 3 32) .badIndex
        (refuseIf (dutyCodesBad b) .badKind (refuseIf (dutySizeBad b) .badLength rest)) ∧
      (¬EndsAfterItems (b.drop 59) (patternCount b 47) (patternCount b 53) → rest = .error .badLength) ∧
      ∀ xs mid ys, takeItems (patternCount b 47) (b.drop 59) = some (xs, mid) → takeItems (patternCount b 53) mid = some (ys, []) →
        rest = refuseIf (dutyBadValue b) .badValue (.ok (Fin.ofNat 12 (readNat b 0 1),
          some { profile := dutyProfileOf b (clampItems seed xs).1 (clampItems (clampItems seed xs).2 ys).1
                 run := (dutyProfileOf b (clampItems seed xs).1 (clampItems (clampItems seed xs).2 ys).1).freshRun },
          dutyOut b || xs.any RawItem.out || ys.any RawItem.out, (clampItems (clampItems seed xs).2 ys).2)) := by
  rw [parseDuty, refuseIf_of_not index]
  dsimp only
  rw [if_neg long, used]
  refine ⟨_, rfl, fun unended => ?_, fun xs mid ys first second => ?_⟩
  · cases first : takeItems (patternCount b 47) (b.drop 59) with
    | none => rfl
    | some taken =>
      obtain ⟨xs, mid⟩ := taken
      dsimp only
      split
      · next ys second => exact absurd (endsAfterItems_iff.2 ⟨xs, mid, ys, first, second⟩) unended
      · rfl
  · rw [first]
    dsimp only
    rw [second]

theorem parseDuty_of_unused (d : Fin 12) (rest : List Byte) : parseDuty seed (oneByte d.val :: 0 :: rest) = .ok (d, none, false, seed) := by
  have unused : flagAt (oneByte d.val :: 0 :: rest) 1 = false := flagAt_of_slice (c := false) rfl
  rw [parseDuty, refuseIf_of_not (badIndexAt_of_slice d (by decide) rfl)]
  dsimp only
  rw [if_neg (by simp), unused, ofNat_readNat_of_slice d (by decide) rfl]
  rfl

theorem dutyCodes_of_body (carried : p.Carried) (d : Fin 12) (x y : Byte) : dutyCodesBad (dutyBodyWith d p x y) = false := by
  obtain ⟨failure, -⟩ := failureCode_of_slice (slice_dutyFailure d p x y)
  have part := slice_dutyCapture d p x y
  have named : badCodeAt (dutyBodyWith d p x y) 23 failureOfCode = false := by
    rw [Bool.eq_false_iff, ne_eq, badCodeAt_iff fun _ => failureOfCode_eq_none, byteAt_iff]
    exact fun past => Nat.not_lt.2 failure past.2
  rw [dutyCodesBad, named, Bool.false_or, field?_any_ne_zero, flagAt_capture part]
  cases capture : p.capture with
  | none => rw [Option.isSome_none, Bool.false_and]
  | some c =>
    rw [capture] at part
    have target := (captureReads_of_slice part (carried.captured c capture)).target
    rw [Option.isSome_some, Bool.true_and, Bool.eq_false_iff, ne_eq, badCodeAt_iff fun _ => targetOfCode_eq_none, byteAt_iff]
    exact fun past => Nat.not_lt.2 target past.2

theorem itemsOf_carried {q : Option Pattern} (h : ∀ r ∈ q, r.Carried) : (itemsOf q).length ≤ 4 ∧ ∀ c ∈ itemsOf q, c.Carried := by
  cases q with
  | none => exact ⟨Nat.zero_le _, nofun⟩
  | some r => exact (h r rfl).items

/-- The items stored for a carried duty's patterns, and the count of free values after them (R104, log 7). -/
def replyStored (seed : Nat) (p : DutyProfile) : List CompareItem × Nat := clampItems seed ((itemsOf p.reply).map CompareItem.raw)

def rejectStored (seed : Nat) (p : DutyProfile) : List CompareItem × Nat :=
  clampItems (replyStored seed p).2 ((itemsOf p.reject).map CompareItem.raw)

theorem parseDuty_dutyBodyWith (carried : p.Carried) (d : Fin 12) (x y : Byte) :
    parseDuty seed (dutyBodyWith d p x y) =
      .ok (d, some { profile := p.stored x y (replyStored seed p).1 (rejectStored seed p).1
                     run := (p.stored x y (replyStored seed p).1 (rejectStored seed p).1).newRun },
        dutyOut (dutyBodyWith d p x y) || ((itemsOf p.reply).map CompareItem.raw).any RawItem.out ||
          ((itemsOf p.reject).map CompareItem.raw).any RawItem.out, (rejectStored seed p).2) := by
  obtain ⟨fewReply, replyItems⟩ := itemsOf_carried carried.reply
  obtain ⟨fewReject, rejectItems⟩ := itemsOf_carried carried.reject
  have length := dutyBodyWith_length d p x y
  have place : slice (dutyBodyWith d p x y) 0 1 = [oneByte d.val] := slice_dutyHead d p x y 0 1 (by decide)
  have index : badIndexAt (dutyBodyWith d p x y) 0 12 = false := badIndexAt_of_slice d (by decide) place
  have used : flagAt (dutyBodyWith d p x y) 1 = true := flagAt_of_slice (c := true) (slice_dutyHead d p x y 1 1 (by decide))
  have indices : (badIndexAt (dutyBodyWith d p x y) 2 48 || badOptIndexAt (dutyBodyWith d p x y) 3 32) = false := by
    rw [badIndexAt_of_slice p.template (by decide) (slice_dutyHead d p x y 2 1 (by decide)),
      badOptIndexAt_of_slice (id := p.patchList) (slice_dutyHead d p x y 3 2 (by decide)) (by decide), Bool.or_false]
  have replyCount := patternCount_of_slice (slice_dutyReply d p x y) carried.reply
  have rejectCount := patternCount_of_slice (slice_dutyReject d p x y) carried.reject
  have sized : dutySizeBad (dutyBodyWith d p x y) = false := by
    rw [dutySizeBad, replyCount, rejectCount, decide_eq_false (by omega), decide_eq_false (by omega), decide_eq_false (by omega)]
    rfl
  have first : takeItems (patternCount (dutyBodyWith d p x y) 47) ((dutyBodyWith d p x y).drop 59) =
      some ((itemsOf p.reply).map CompareItem.raw, patternItems p.reject) := by
    rw [replyCount, dutyBodyWith_items, patternItems_eq]
    exact takeItems_append replyItems _
  have second : takeItems (patternCount (dutyBodyWith d p x y) 53) (patternItems p.reject) =
      some ((itemsOf p.reject).map CompareItem.raw, []) := by
    rw [rejectCount, patternItems_eq, ← List.append_nil (List.flatMap _ _)]
    exact takeItems_append rejectItems []
  obtain ⟨rest, examined, -, read⟩ := parseDuty_of_used seed index (by omega) used
  rw [examined, refuseIf_of_not indices, refuseIf_of_not (dutyCodes_of_body carried d x y), refuseIf_of_not sized,
    read _ _ _ first second, refuseIf_of_not (dutyBadValue_body carried d x y), dutyProfileOf_body carried,
    ofNat_readNat_of_slice d (by decide) place]
  rfl

/-! ### The faults of a body -/

section Faults

variable (used : flagAt b 1 = true)
include used

theorem dutyIndices_iff (index : ¬ByteAt b 0 (12 ≤ ·)) : (badIndexAt b 2 48 || badOptIndexAt b 3 32) = true ↔
    ByteAt b 0 (12 ≤ ·) ∨ (ByteAt b 1 (· ≠ 0) ∧ (ByteAt b 2 (48 ≤ ·) ∨ OptByteAt b 3 4 (32 ≤ ·))) := by
  rw [or_iff_right index, and_iff_right (flagAt_iff_byteAt.1 used), Bool.or_eq_true, badIndexAt_iff, badOptIndexAt_iff]

theorem dutyCodesBad_iff : dutyCodesBad b = true ↔ ByteAt b 1 (· ≠ 0) ∧ (ByteAt b 23 (2 < ·) ∨ OptByteAt b 27 31 (1 < ·)) := by
  rw [and_iff_right (flagAt_iff_byteAt.1 used), dutyCodesBad, Bool.or_eq_true, Bool.and_eq_true,
    badCodeAt_iff fun _ => failureOfCode_eq_none, badCodeAt_iff fun _ => targetOfCode_eq_none, field?_any_ne_zero, flagAt_iff_byteAt]
  rfl

end Faults

theorem itemCount_eq (b : List Byte) (off : Nat) : itemCount b off = patternCount b off := by
  by_cases absent : readNat b off 1 = 0 <;> simp [itemCount, patternCount, flagAt, absent]

theorem dutyBadValue_iff (long : 59 ≤ b.length) : dutyBadValue b = true ↔
    (ByteAt b 47 (· = 0) ∧ (ByteAt b 53 (· ≠ 0) ∨ ByteAt b 27 (· ≠ 0))) ∨ OptByteAt b 27 30 (fun w => w ≠ 1 ∧ w ≠ 2 ∧ w ≠ 4) ∨
      (OptByteAt b 27 31 (· = 0) ∧ max 1 (min 604800 (readNat b 38 4)) < max 1 (min 604800 (readNat b 34 4))) := by
  have reached : ∀ {off : Nat} {bad : Nat → Prop}, off < 59 → (ByteAt b off bad ↔ bad (readNat b off 1)) := fun inside => by
    rw [byteAt_iff, and_iff_right (Nat.lt_of_lt_of_le inside long)]
  have absent : flagAt b 47 = false ↔ readNat b 47 1 = 0 := by simp [flagAt]
  have lower : (delayField b 34 1).val = max 1 (min 604800 (readNat b 34 4)) := Ranged.val_eq (by decide)
  have upper : (delayField b 38 1).val = max 1 (min 604800 (readNat b 38 4)) := Ranged.val_eq (by decide)
  rw [OptByteAt, OptByteAt, ← flagAt_iff_byteAt, ← flagAt_iff_byteAt, reached (by decide), reached (by decide), reached (by decide),
    ← absent, dutyBadValue, lower, upper]
  simp only [Bool.or_eq_true, Bool.and_eq_true, Bool.not_eq_true', Bool.or_eq_false_iff, decide_eq_true_iff, decide_eq_false_iff_not,
    and_or_left, and_assoc, ne_eq]

theorem parseDuty_of_fault (h : FirstFault (dutyFaults b) st) : parseDuty seed b = .error st := by
  by_cases bad : ByteAt b 0 (12 ≤ ·)
  · rw [h.eq_of_holds (.inl bad), parseDuty, badIndexAt_iff.2 bad]
    rfl
  have index : badIndexAt b 0 12 = false := Bool.eq_false_iff.2 (mt badIndexAt_iff.1 bad)
  by_cases short : b.length < 2
  · have unused : ¬ByteAt b 1 (· ≠ 0) := fun used => by have := (byteAt_iff.1 used).1; omega
    rw [((h.later (not_or.2 ⟨bad, fun both => unused both.1⟩)).later fun both => unused both.1).eq_of_holds (.inl short), parseDuty,
      refuseIf_of_not index]
    exact if_pos short
  by_cases used : flagAt b 1 = true
  · obtain ⟨rest, examined, unended, read⟩ := parseDuty_of_used seed index short used
    rw [examined]
    refine refuseIf_of_firstFault (dutyIndices_iff used bad) h fun _ h => ?_
    refine refuseIf_of_firstFault (dutyCodesBad_iff used) h fun _ h => ?_
    have loaded := flagAt_iff_byteAt.1 used
    by_cases sized : dutySizeBad b = true
    · have fault := sized
      simp only [dutySizeBad, Bool.or_eq_true, decide_eq_true_iff, or_assoc, ← itemCount_eq] at fault
      rw [h.eq_of_holds (.inr ⟨loaded, fault.imp_right (Or.imp_right Or.inl)⟩), sized]
      rfl
    rw [refuseIf_of_not (Bool.not_eq_true _ ▸ sized)]
    simp only [dutySizeBad, Bool.or_eq_true, decide_eq_true_iff, not_or, and_assoc] at sized
    obtain ⟨long, fewReply, fewReject⟩ := sized
    rw [itemCount_eq, itemCount_eq] at h
    by_cases ends : EndsAfterItems (b.drop 59) (patternCount b 47) (patternCount b 53)
    · obtain ⟨xs, mid, ys, first, second⟩ := endsAfterItems_iff.1 ends
      have sound : ¬(b.length < 2 ∨ (ByteAt b 1 (· ≠ 0) ∧ (b.length < 59 ∨ 4 < patternCount b 47 ∨ 4 < patternCount b 53 ∨
          ¬EndsAfterItems (b.drop 59) (patternCount b 47) (patternCount b 53)))) := by
        simp only [short, long, fewReply, fewReject, ends, not_true_eq_false, or_false, and_false, not_false_eq_true]
      rw [read xs mid ys first second]
      refine refuseIf_of_firstFault ?_ (h.later sound) fun _ never => never.elim
      rw [and_iff_right loaded]
      exact dutyBadValue_iff (Nat.le_of_not_lt long)
    · rw [h.eq_of_holds (.inr ⟨loaded, .inr (.inr (.inr ends))⟩), unended ends]
  · rw [flagAt_iff_byteAt] at used
    simp only [dutyFaults, FirstFault, bad, used, short, false_and, or_false, and_false] at h

/-! ### O30 -/

/-! ### A duty in range -/

theorem itemsOf_inRange {q : Option Pattern} (h : ∀ r ∈ q, r.InRange) : (itemsOf q).length ≤ 4 ∧ ∀ c ∈ itemsOf q, c.InRange := by
  cases q with
  | none => exact ⟨Nat.zero_le _, nofun⟩
  | some r => exact (h r rfl).items

theorem Pattern.InRange.carried {q : Pattern} (h : q.InRange) : q.Carried where
  items := ⟨h.items.1, fun c hc => (h.items.2 c hc).carried⟩
  echo := fun e he => ⟨(h.echo e he).1.trans_lt (by decide), (h.echo e he).2.2.trans_lt (by decide)⟩

theorem storedPattern_of_inRange {q : Option Pattern} (h : ∀ r ∈ q, r.InRange) : storedPattern q (itemsOf q) = q := by
  cases q with
  | none => rfl
  | some r =>
    obtain ⟨items, echo⟩ := r
    cases echo with
    | none => rfl
    | some e =>
      obtain ⟨offset, least, most⟩ := (h _ rfl).echo e rfl
      have width : max 1 (min 4 e.width) = e.width := by omega
      exact congrArg₂ (fun o w => some (Pattern.mk items (some (EchoItem.mk o w)))) (Nat.min_eq_right offset) width

theorem Capture.InRange.carried {c : Capture} (h : c.InRange) : c.Carried := by
  refine ⟨h.offset.trans_lt (by decide), h.width, fun n lo hi target => ?_⟩
  obtain ⟨-, n2, lo1, order, hi2⟩ := h.interval n lo hi target
  omega

theorem Capture.InRange.clamped {c : Capture} (h : c.InRange) : c.clamped = c := by
  obtain ⟨offset, width, target⟩ := c
  have o : min 1513 offset = offset := Nat.min_eq_right h.offset
  cases target with
  | counter => exact congrArg (Capture.mk · width .counter) o
  | interval n lo hi =>
    obtain ⟨n1, n2, lo1, order, hi2⟩ := h.interval n lo hi rfl
    have hn : max 1 (min 256 n) = n := by omega
    have hlo : max 1 (min 604800 lo) = lo := by omega
    have hhi : max 1 (min 604800 hi) = hi := by omega
    simp only [Capture.clamped, o, hn, hlo, hhi]

section InRange

variable (h : p.InRange)
include h

theorem DutyProfile.InRange.carried : p.Carried where
  firstDelay := h.firstDelay.trans_lt (by decide)
  interval := h.interval.2.trans_lt (by decide)
  repeatCount := h.repeatCount.trans_lt (by decide)
  reply := fun q hq => (h.reply q hq).carried
  reject := fun q hq => (h.reject q hq).carried
  replyWindow := h.replyWindow.2.trans_lt (by decide)
  startupTries := h.startupTries.2.trans_lt (by decide)
  runTries := h.runTries.2.trans_lt (by decide)
  backoffBase := h.backoffBase.2.trans_lt (by decide)
  roundsLimit := h.roundsLimit.trans_lt (by decide)
  weight := fun lane w wake => (h.weight lane w wake).trans_lt (by decide)
  capture := fun c hc => (h.capture c hc).carried
  needs_reply := h.needs_reply

/-- A profile in range is stored as it is. -/
theorem DutyProfile.InRange.clampedWith : p.clampedWith p.reply p.reject = p := by
  have capture : p.capture.map Capture.clamped = p.capture := by
    cases captured : p.capture with
    | none => rfl
    | some c => exact congrArg some (h.capture c captured).clamped
  obtain ⟨delay, interval, -, -, -, window, startup, run, base, rounds, -, -, -⟩ := h
  by_contra changed
  rw [← ne_eq, clampedWith_ne_iff] at changed
  simp only [capture, ne_eq, not_true_eq_false, false_or, or_false] at changed
  omega

theorem DutyProfile.InRange.replyStored (seed : Nat) : replyStored seed p = (itemsOf p.reply, seed) :=
  clampItems_of_inRange seed (itemsOf_inRange h.reply).2

theorem DutyProfile.InRange.rejectStored (seed : Nat) : rejectStored seed p = (itemsOf p.reject, seed) := by
  rw [Machine.rejectStored, h.replyStored]
  exact clampItems_of_inRange seed (itemsOf_inRange h.reject).2

theorem DutyProfile.InRange.stored :
    p.stored (oneByte p.backoffMul.val) (failureLane p.failure) (itemsOf p.reply) (itemsOf p.reject) = p := by
  have failure : p.failure.stored (failureLane p.failure) = p.failure := by
    cases p.failure with
    | wake lane weight => exact congrArg (FailureAction.wake · weight) (clampLane_oneByte lane)
    | suspend => rfl
    | continueRuns => rfl
  rw [DutyProfile.stored, storedPattern_of_inRange h.reply, storedPattern_of_inRange h.reject, h.clampedWith, clampLane_oneByte, failure]

theorem DutyProfile.InRange.not_clamped (d : Fin 12) :
    (dutyOut (dutyBody d p) || ((itemsOf p.reply).map CompareItem.raw).any RawItem.out ||
        ((itemsOf p.reject).map CompareItem.raw).any RawItem.out) = false := by
  have reply := clampItems_stored 0 (itemsOf p.reply)
  have reject := clampItems_stored 0 (itemsOf p.reject)
  rw [clampItems_of_inRange 0 (itemsOf_inRange h.reply).2] at reply
  rw [clampItems_of_inRange 0 (itemsOf_inRange h.reject).2] at reject
  have lane : ∀ l : Fin 8, ¬7 < (oneByte l.val).toNat := by decide
  rw [Bool.eq_false_iff, ne_eq, ← dutyBodyWith_own, dutyOut_body h.carried _ _ _ reply reject, storedPattern_of_inRange h.reply,
    storedPattern_of_inRange h.reject, h.clampedWith]
  rintro (changed | past | ⟨⟨l, weight, wake⟩, past⟩)
  · exact changed rfl
  · exact lane _ past
  · rw [wake] at past
    exact lane l past

end InRange

theorem exec_putDuty_of_ok {u : Option Duty} {clamped : Bool} {next : Nat} (idle : s.proxy = .idle) (unread : s.reply = none)
    (short : b.length ≤ 1600) (h : parseDuty s.freeCount b = .ok (d, u, clamped, next)) :
    exec (.putDuty (requestOf tag b)) s = .next
      { s with
        duties := s.duties.set d { s.duties[d] with duty := u }
        freeCount := next
        reply := some { okReply 0x07 tag [] with clamped := clamped } } :=
  (next_of_performed unread short (inIdle_of_idle idle) (by simp) (verdictOf_ok h)).trans rfl

/-- Settles O30. -/
theorem put_Duty_stores_the_duty : Obligations.Put_Duty_stores_the_duty := by
  intro s tag idle unread
  refine ⟨fun d p inRange => ?inRange, fun d p x y carried short => ?carried, fun d rest few => ?unused,
    fun b few st fault => next_of_refused unread few (inIdle_of_idle idle) nofun (verdictOf_error (parseDuty_of_fault fault))⟩
  case inRange =>
    have reply := itemsOf_inRange inRange.reply
    have reject := itemsOf_inRange inRange.reject
    have parsed := parseDuty_dutyBodyWith (seed := s.freeCount) inRange.carried d (oneByte p.backoffMul.val) (failureLane p.failure)
    have length := dutyBodyWith_length d p (oneByte p.backoffMul.val) (failureLane p.failure)
    have replySize := items_length_le reply.2
    have rejectSize := items_length_le reject.2
    rw [dutyBodyWith_own, inRange.rejectStored, inRange.replyStored, inRange.stored, inRange.not_clamped] at parsed
    rw [dutyBodyWith_own, patternItems_eq, patternItems_eq] at length
    obtain ⟨fewReply, -⟩ := reply
    obtain ⟨fewReject, -⟩ := reject
    exact exec_putDuty_of_ok idle unread (by omega) parsed
  case carried =>
    have reply := clampItems_stored s.freeCount (itemsOf p.reply)
    have reject := clampItems_stored (replyStored s.freeCount p).2 (itemsOf p.reject)
    have size : (dutyBodyWith d p x y).length ≤ 1600 := by
      rw [dutyBodyWith, List.length_set, List.length_set]
      exact short
    exact ⟨_, _, (rejectStored s.freeCount p).2, _, storedPattern_stored reply, storedPattern_stored reject, dutyOut_body carried d x y reply reject,
      exec_putDuty_of_ok idle unread size (parseDuty_dutyBodyWith carried d x y)⟩
  case unused =>
    exact exec_putDuty_of_ok idle unread (Nat.add_le_add_right few 2) (parseDuty_of_unused d rest)

end Sys2Proof.Machine
end
